-- ==== Sys2Proof/Word.lean ====
section
/-! DEFINITION. The word types of the core, and the words it decodes: the host command, the phase, and the two
encoded formats (spec/00_scope.md R10, R19; spec/30_encoding.md R70, R78). -/

namespace Sys2Proof

/-- A 64-bit block: plaintext or ciphertext (R10). Element 0 is the most significant bit (R19, R52). -/
abbrev Block64 := BitVec 64

/-- A 64-bit key, 8 bits of it parity (R10, R102). -/
abbrev Key64 := BitVec 64

/-- The permuted key `C ++ D` (R10). -/
abbrev PermutedKey56 := BitVec 56

/-- A C or D half (R10). -/
abbrev Half28 := BitVec 28

/-- A round key (R10). -/
abbrev RoundKey48 := BitVec 48

/-- A half block (R10). -/
abbrev Half32 := BitVec 32

/-- An expanded half, and the key-mixed value (R10). -/
abbrev Expanded48 := BitVec 48

/-- The host command word `{rst, start}` (R71). -/
abbrev CmdWord := BitVec 2

/-- The phase word `{kind, idx}` (R73). -/
abbrev PhaseWord := BitVec 6

/-- A decoded host command (R72). RESET keeps the bit `start` that it ignores, so that both of its words are told
apart. -/
inductive Cmd where
  | reset (start : Bool)
  | start
  | nop
  deriving DecidableEq, Repr

/-- A decoded phase (R74, R79). `ksrot idx` is KSROT n and `round idx` is ROUND n, with n = idx + 1 (R76).
`reserved` keeps the phase word, which R208 lets a model record (log entry 19). -/
inductive Phase where
  | idle
  | pc1
  | ip
  | fp
  | done
  | ksrot (idx : BitVec 4)
  | round (idx : BitVec 4)
  | reserved (word : PhaseWord)
  deriving DecidableEq, Repr

/-- An encoded word: exactly two formats exist (R70). -/
inductive CodeWord where
  | cmd (word : CmdWord)
  | phase (word : PhaseWord)
  deriving DecidableEq, Repr

end Sys2Proof
end

