-- ==== Sys2Proof/Syntax.lean ====
section
/-! DEFINITION. The instructions: one constructor for each row of spec/opcode_table.json. The first three are the host's
commands on CMD, the others the core's steps and holds selected by PHASE (spec/30_encoding.md R72, R74). -/

namespace Sys2Proof

inductive Instr where
  /-- RESET, `1x` (R220, R221); `start` is the ignored bit. -/
  | reset (start : Bool)
  /-- START, `01` (R181). -/
  | start
  /-- NOP, `00` (R189). -/
  | nop
  /-- IDLE, 0x00 (R187). -/
  | idle
  /-- PC1, 0x01 (R182). -/
  | pc1
  /-- IP, 0x02 (R184). -/
  | ip
  /-- FP, 0x03 (R186). -/
  | fp
  /-- DONE, 0x04 (R188). -/
  | done
  /-- Reserved phase 0x05 (R190). -/
  | rsvd05
  /-- Reserved phases 0x06 and 0x07 (R190), with the phase word (R208 lets it be recorded). -/
  | rsvd06 (word : PhaseWord)
  /-- Reserved phases 0x08 to 0x0F (R190), with the phase word. -/
  | rsvd08 (word : PhaseWord)
  /-- KSROT n, 0x10 to 0x1F, n = idx + 1 (R183). -/
  | ksrot (idx : BitVec 4)
  /-- ROUND n, 0x20 to 0x2F, n = idx + 1 (R185). -/
  | round (idx : BitVec 4)
  /-- Reserved phases 0x30 to 0x3F (R190), with the phase word. -/
  | rsvd30 (word : PhaseWord)
  deriving DecidableEq, Repr

end Sys2Proof
end

