-- ==== Sys2Proof/WellFormed.lean ====
section
/-! DEFINITION. Which instructions an encoding can give: the phase word kept by a reserved row is one of that row's
own words (spec/30_encoding.md R74, R75). Every other operand's type already admits only what R71 and R76 admit. -/

namespace Sys2Proof

/-- The words of row RSVD_06, `00011x`. -/
abbrev inRsvd06 (w : PhaseWord) : Prop := 0x06#6 ≤ w ∧ w ≤ 0x07#6

/-- The words of row RSVD_08, `001xxx`. -/
abbrev inRsvd08 (w : PhaseWord) : Prop := 0x08#6 ≤ w ∧ w ≤ 0x0F#6

/-- The words of row RSVD_30, `11xxxx`. -/
abbrev inRsvd30 (w : PhaseWord) : Prop := 0x30#6 ≤ w

/-- Well-formedness of an instruction, as a test that evaluates. -/
def Instr.wellFormed : Instr → Bool
  | .reset _ => true
  | .start => true
  | .nop => true
  | .idle => true
  | .pc1 => true
  | .ip => true
  | .fp => true
  | .done => true
  | .rsvd05 => true
  | .rsvd06 w => decide (inRsvd06 w)
  | .rsvd08 w => decide (inRsvd08 w)
  | .ksrot _ => true
  | .round _ => true
  | .rsvd30 w => decide (inRsvd30 w)

/-- Well-formedness of an instruction. -/
abbrev Instr.WellFormed (i : Instr) : Prop := i.wellFormed = true

end Sys2Proof
end

