-- ==== Sys2Proof/Decode.lean ====
section
/-! DEFINITION. The decoders of the two words, total (spec/30_encoding.md R72, R74, R79), the decoder of a table word,
and the encoders, written from the same tables. -/

namespace Sys2Proof

/-- Decode the host command word (R72): `1x` RESET, `01` START, `00` NOP. -/
def decodeCmd (w : CmdWord) : Cmd :=
  if w.getLsbD 1 then .reset (w.getLsbD 0)
  else if w.getLsbD 0 then .start
  else .nop

/-- `PHASE[5:4]` (R73). -/
def phaseKind (w : PhaseWord) : BitVec 2 := w.extractLsb' 4 2

/-- `PHASE[3:0]` (R73). -/
def phaseIdx (w : PhaseWord) : BitVec 4 := w.extractLsb' 0 4

/-- Decode a control phase, kind 00 (R74): `idx` says which one, and 5 to 15 are reserved. -/
def decodeControl (w : PhaseWord) : Phase :=
  if phaseIdx w = 0#4 then .idle
  else if phaseIdx w = 1#4 then .pc1
  else if phaseIdx w = 2#4 then .ip
  else if phaseIdx w = 3#4 then .fp
  else if phaseIdx w = 4#4 then .done
  else .reserved w

/-- Decode the phase word (R74). -/
def decodePhase (w : PhaseWord) : Phase :=
  if phaseKind w = 0b00#2 then decodeControl w
  else if phaseKind w = 0b01#2 then .ksrot (phaseIdx w)
  else if phaseKind w = 0b10#2 then .round (phaseIdx w)
  else .reserved w

/-- The opcode-table row of a host command. -/
def Cmd.instr : Cmd → Instr
  | .reset b => .reset b
  | .start => .start
  | .nop => .nop

/-- The opcode-table row of a reserved phase word (R74): 0x05, 0x06–0x07, 0x08–0x0F, and otherwise 0x30–0x3F. -/
def reservedInstr (w : PhaseWord) : Instr :=
  if w = 0x05#6 then .rsvd05
  else if w ≤ 0x07#6 then .rsvd06 w
  else if w ≤ 0x0F#6 then .rsvd08 w
  else .rsvd30 w

/-- The opcode-table row of a phase. -/
def Phase.instr : Phase → Instr
  | .idle => .idle
  | .pc1 => .pc1
  | .ip => .ip
  | .fp => .fp
  | .done => .done
  | .ksrot idx => .ksrot idx
  | .round idx => .round idx
  | .reserved w => reservedInstr w

/-- Decode an encoded word of either format. Every word of both formats has a row (R75, R79). -/
def decodeWord : CodeWord → Instr
  | .cmd w => (decodeCmd w).instr
  | .phase w => (decodePhase w).instr

/-- Why a number of bits is no word of the core. -/
inductive DecodeError where
  /-- A bit above the word's 2 or 6 bits is set: no such encoding exists (R78). -/
  | noSuchWord
  deriving DecidableEq, Repr

/-- The encoded word that `nbits` bits with value `w` are. The two formats share the bit numbers from 0, and only the
width tells them apart: up to 2 bits are a CMD word, more are a PHASE word (DESIGN CHOICE, log entry 12). -/
def codeWordOf (nbits w : Nat) : Except DecodeError CodeWord :=
  if nbits ≤ 2 then
    if w < 4 then .ok (.cmd (BitVec.ofNat 2 w)) else .error .noSuchWord
  else
    if w < 64 then .ok (.phase (BitVec.ofNat 6 w)) else .error .noSuchWord

/-- The instruction that the decoder reads from an opcode-table word. -/
def decodeTableWord (nbits w : Nat) : Option Instr :=
  match codeWordOf nbits w with
  | .ok cw => some (decodeWord cw)
  | .error _ => none

/-- Encode a host command (R72). -/
def encodeCmd : Cmd → CmdWord
  | .reset b => 0b1#1 ++ BitVec.ofBool b
  | .start => 0b01#2
  | .nop => 0b00#2

/-- Encode a phase (R74). -/
def encodePhase : Phase → PhaseWord
  | .idle => 0x00#6
  | .pc1 => 0x01#6
  | .ip => 0x02#6
  | .fp => 0x03#6
  | .done => 0x04#6
  | .ksrot idx => 0b01#2 ++ idx
  | .round idx => 0b10#2 ++ idx
  | .reserved w => w

/-- Encode an instruction (R72, R74). -/
def encode : Instr → CodeWord
  | .reset b => .cmd (encodeCmd (.reset b))
  | .start => .cmd (encodeCmd .start)
  | .nop => .cmd (encodeCmd .nop)
  | .idle => .phase (encodePhase .idle)
  | .pc1 => .phase (encodePhase .pc1)
  | .ip => .phase (encodePhase .ip)
  | .fp => .phase (encodePhase .fp)
  | .done => .phase (encodePhase .done)
  | .rsvd05 => .phase 0x05#6
  | .rsvd06 w => .phase w
  | .rsvd08 w => .phase w
  | .ksrot idx => .phase (encodePhase (.ksrot idx))
  | .round idx => .phase (encodePhase (.round idx))
  | .rsvd30 w => .phase w

end Sys2Proof
end

