-- ==== Sys2Proof/Machine/Bits.lean ====
section
/-! DEFINITION. Sequences of bits: element, slice, concatenation, rotation, the generic permutation, integer values and
the byte view (spec/00_scope.md R13–R19, spec/20_memory.md R52–R55). A sequence of width w is a `BitVec w` whose
element 0 is its most significant bit. -/

namespace Sys2Proof.Machine

/-- `elem(x, i)` (R13, R19): bit `x[w-1-i]`. -/
abbrev elem {w : Nat} (x : BitVec w) (i : Nat) : Bool := x.getMsbD i

/-- `slice(x, a, a + m - 1)`: the m elements from element a on (R13, R55). -/
def slice {w : Nat} (m : Nat) (x : BitVec w) (a : Nat) : BitVec m := x.extractLsb' (w - a - m) m

/-- The sequence of width m whose elements are the bits listed, the first as element 0. -/
def ofBits (m : Nat) (bits : List Bool) : BitVec m := (BitVec.ofBoolListBE bits).setWidth m

/-- The generic permutation `permute(T, x)` (R15): output element j is input element T[j] − 1, entries counting
from 1 (R14). -/
def permute {w : Nat} (m : Nat) (table : List Nat) (x : BitVec w) : BitVec m :=
  ofBits m (table.map fun t => elem x (t - 1))

/-- `rotl(x, k)` (R18). -/
def rotl {w : Nat} (x : BitVec w) (k : Nat) : BitVec w := x.rotateLeft k

/-- `a ++ b` of two 28-bit halves (R16). -/
def join28 (a b : Half28) : PermutedKey56 := a ++ b

/-- `a ++ b` of two 32-bit halves (R16). -/
def join32 (a b : Half32) : Block64 := a ++ b

/-- `bin_4(v)` (R19, R136): the 4-element sequence whose value is v. -/
def bin4 (v : Nat) : BitVec 4 := BitVec.ofNat 4 v

/-- `val(x)` (R19). -/
def val {w : Nat} (x : BitVec w) : Nat := x.toNat

/-- Byte j (0 to 7) of a 64-bit value, byte 0 the most significant (R53). -/
def byteOf (x : Block64) (j : Nat) : BitVec 8 := slice 8 x (8 * j)

end Sys2Proof.Machine
end

