-- ==== Sys2Proof/Config.lean ====
section
/-! DEFINITION. What the spec leaves open, as free values: constants with no body, of which no proof can know a value
(spec/93_implementation_defined.md S3, S4, S8). The fixed constants of R39 (tables and rotation schedule) are in
Sys2Proof/Machine/Tables.lean. -/

namespace Sys2Proof

/-- The k-th draw of a w-bit register value, "draws with no law" (R43, R44). `State.draws` counts the draws, so no two
draws of a run share an argument (log entry 4). -/
opaque Config.draw (w : Nat) (k : Nat) : BitVec w

/-- One less than STEP_CYCLES for the step of each phase (R11, R230): any number, so that STEP_CYCLES is positive. -/
opaque Config.extraCycles (phase : PhaseWord) : Nat

/-- STEP_CYCLES: how many clock cycles a step takes. It is positive and may differ per step; the model is untimed and
no rule depends on it (R11, R230; log entry 15). -/
def Config.stepCycles (phase : PhaseWord) : Nat := Config.extraCycles phase + 1

end Sys2Proof
end

