-- ==== Sys2Proof/Machine/State.lean ====
section
/-! DEFINITION. The machine's state as plain data (spec/10_state.md), the reasons a step can stop, and the state right
after reset (R43). -/

namespace Sys2Proof.Machine

/-- Why the machine stops with a fault (R41, R208). -/
inductive Fault where
  /-- ReservedPhase: a core step or a START in a phase that decodes to Reserved (R190, R181) sets the FAULT mark with
  it, and every transition from a state with the mark stops with it (R216: no successor). Safe: the spec says the
  state has no successor. -/
  | reservedPhase
  deriving DecidableEq, Repr

/-- The reasons of the REFUSED mark (R42). -/
inductive RefusalReason where
  /-- StartWhileBusy: a START while busy = 1 (R206). -/
  | startWhileBusy
  /-- NotABit: an element outside 0 and 1 given to encrypt_block (R202). -/
  | notABit
  deriving DecidableEq, Repr

/-- Why the machine gives a transition no meaning. -/
inductive Refusal where
  /-- An instruction that the dispatch rejects by name; no arm does. Safe: it stops. -/
  | notModelled (mnemonic : String)
  /-- A transition, RESET included, or a call of encrypt_block in a run whose REFUSED mark is set: "the run has no further
  meaning" (R206, R211; log entry 8). Raised by every meaning. Safe: it stops. -/
  | runRefused (reason : RefusalReason)
  deriving DecidableEq, Repr

/-- What the host drives at one transition, and whose turn it is (R21, R22, R180). -/
structure HostInput where
  keyIn : Key64
  ptIn : Block64
  start : Bool
  rst : Bool
  /-- With CMD = 00: is the transition the core's step (true), or does the core not move (false)? (R180, R189) -/
  coreTurn : Bool
  deriving DecidableEq, Repr

/-- The machine state (R180: "ports, registers, PHASE, and the FAULT and REFUSED marks"). The last three fields are the
model's own (log entries 1, 4, 5). -/
structure State where
  /-- `key_in[63:0]` (R22) -/
  keyIn : Key64
  /-- `pt_in[63:0]` (R22) -/
  ptIn : Block64
  /-- `start` (R22) -/
  start : Bool
  /-- `rst` (R22) -/
  rst : Bool
  /-- `KEY_R[63:0]` (R24) -/
  keyR : Key64
  /-- `PT_R[63:0]` (R25) -/
  ptR : Block64
  /-- `C[27:0]` (R26) -/
  c : Half28
  /-- `D[27:0]` (R27) -/
  d : Half28
  /-- `KS[1..16]` (R28); KS[n] is at index n − 1 (log entry 24). -/
  ks : Vector RoundKey48 16
  /-- `L[31:0]` (R29) -/
  l : Half32
  /-- `R[31:0]` (R30) -/
  r : Half32
  /-- `CT[63:0]` (R31) -/
  ct : Block64
  /-- `PHASE[5:0]` (R32) -/
  phase : PhaseWord
  /-- FAULT (R41) -/
  fault : Option Fault
  /-- REFUSED (R42) -/
  refused : Option RefusalReason
  /-- MODEL'S OWN: with CMD = 00, is this transition the core's step? (R180, R189) -/
  coreTurn : Bool
  /-- MODEL'S OWN: what the host drives, and whose turn it is, at the following transitions. -/
  script : List HostInput
  /-- MODEL'S OWN: how many free values have been drawn. -/
  draws : Nat
  deriving DecidableEq, Repr

/-- The machine right after a RESET (R43): PHASE = IDLE and the marks unset. R43 leaves the data registers
unspecified: they are 0 here (DESIGN CHOICE, log entry 3). The ports and the model's own fields are log entries 1, 5
and 6. -/
def State.reset : State where
  keyIn := 0
  ptIn := 0
  start := false
  rst := false
  keyR := 0
  ptR := 0
  c := 0
  d := 0
  ks := Vector.replicate 16 0
  l := 0
  r := 0
  ct := 0
  phase := 0x00
  fault := none
  refused := none
  coreTurn := true
  script := []
  draws := 0

end Sys2Proof.Machine
end

