-- ==== Sys2Proof/Machine/Operands.lean ====
section
/-! DEFINITION. How operands are assembled: the round number of a phase word, the round-key index, START's port operands,
and the S-box group, row and column (spec/30_encoding.md R76, R77; spec/42_mangler.md R134, R135). -/

namespace Sys2Proof.Machine

/-- The round number n = idx + 1, in 1..16 (R76). -/
def roundNumber (idx : BitVec 4) : Nat := idx.toNat + 1

/-- START's key operand, sampled from the port (R77). -/
def State.keyOperand (s : State) : Key64 := s.keyIn

/-- START's plaintext operand, sampled from the port (R77). -/
def State.ptOperand (s : State) : Block64 := s.ptIn

/-- The host command word on the ports, `{rst, start}` (R71). -/
def State.cmdWord (s : State) : CmdWord := BitVec.ofBool s.rst ++ BitVec.ofBool s.start

/-- Group g (0 to 7) of the key-mixed value: elements 6g to 6g + 5 (R134). -/
def sboxGroup (x : Expanded48) (g : Nat) : BitVec 6 := slice 6 x (6 * g)

/-- `row(b)` (R135): 2·b₀ + b₅. -/
def sboxRow (b : BitVec 6) : Nat := 2 * (elem b 0).toNat + (elem b 5).toNat

/-- `col(b)` (R135): 8·b₁ + 4·b₂ + 2·b₃ + b₄. -/
def sboxCol (b : BitVec 6) : Nat :=
  8 * (elem b 1).toNat + 4 * (elem b 2).toNat + 2 * (elem b 3).toNat + (elem b 4).toNat

end Sys2Proof.Machine
end

