-- ==== Sys2Proof/Machine/Ops.lean ====
section
/-! DEFINITION. The named operations on the state: register writes, the draws of RESET, the FAULT and REFUSED marks
(this core's only form of an exception: spec/60_exceptions.md R210), and the conditions under which a transition is
defined (R206, R216). Each operation's fields land together (spec/00_scope.md R20). -/

namespace Sys2Proof.Machine

/-- The outcome of a transition. -/
abbrev StepOutcome := Host.Outcome State Fault Refusal

/-- `PHASE <- p` (R20, R74). -/
def State.goto (s : State) (p : Phase) : State := { s with phase := encodePhase p }

/-- Latch START's operands: `KEY_R <- key_in ; PT_R <- pt_in` (R24, R25, R57). -/
def State.latchOperands (s : State) : State := { s with keyR := s.keyOperand, ptR := s.ptOperand }

/-- Write C and D (R26, R27). -/
def State.setCD (s : State) (cd : Half28 × Half28) : State := { s with c := cd.1, d := cd.2 }

/-- `KS[n]`, n = idx + 1 (R28). -/
def State.readKS (s : State) (idx : BitVec 4) : RoundKey48 := s.ks.get idx.toFin

/-- Write `KS[n]`, n = idx + 1, and no other entry (R28, R183). -/
def State.setKS (s : State) (idx : BitVec 4) (v : RoundKey48) : State :=
  { s with ks := s.ks.set idx.toNat v idx.isLt }

/-- Write L and R (R29, R30). -/
def State.setLR (s : State) (lr : Half32 × Half32) : State := { s with l := lr.1, r := lr.2 }

/-- Write CT, whole (R31, R57). -/
def State.setCT (s : State) (v : Block64) : State := { s with ct := v }

/-- The unspecified data registers of RESET (R43, R221): each becomes a fresh free value. There are 23 of them, and the
counter moves past them, so no two draws coincide by construction (log entries 4, 21 and 23). -/
def State.drawRegisters (s : State) : State :=
  { s with
    keyR := Config.draw 64 s.draws
    ptR := Config.draw 64 (s.draws + 1)
    c := Config.draw 28 (s.draws + 2)
    d := Config.draw 28 (s.draws + 3)
    l := Config.draw 32 (s.draws + 4)
    r := Config.draw 32 (s.draws + 5)
    ct := Config.draw 64 (s.draws + 6)
    ks := Vector.ofFn fun i => Config.draw 48 (s.draws + 7 + i.val)
    draws := s.draws + 23 }

/-- A state at power-on (R44): every register is unspecified, PHASE included, which may be a reserved value; the ports
are as given and the run's marks are unset (log entry 17). -/
def State.powerOn (s : State) : State :=
  { s.drawRegisters with
    phase := Config.draw 6 (s.draws + 23)
    fault := none
    refused := none
    draws := s.draws + 24 }

/-- Set the FAULT mark (R41). -/
def State.markFault (s : State) (f : Fault) : State := { s with fault := some f }

/-- Set the REFUSED mark (R42). -/
def State.markRefused (s : State) (r : RefusalReason) : State := { s with refused := some r }

/-- `fault F` (R20, R216): the state gets the mark and is otherwise unchanged (R190, R210). A faulted state has no
successor: `whenLive` stops every transition from it (log entry 7). -/
def takeFault (f : Fault) (s : State) : StepOutcome := .next (s.markFault f)

/-- `refuse F` (R20, R206): the state gets the mark and is otherwise unchanged (R204). The run then has no further
meaning: `whenLive` stops every transition from it (log entry 8). -/
def takeRefusal (r : RefusalReason) (s : State) : StepOutcome := .next (s.markRefused r)

/-- What is defined only in a run with neither mark set (R206, R211, R216): every transition, RESET included, and every
call of `encrypt_block`. -/
def State.whenLive {α : Type} (s : State) (k : State → Host.Outcome α Fault Refusal) : Host.Outcome α Fault Refusal :=
  match s.fault with
  | some f => .fault f
  | none =>
    match s.refused with
    | some r => .refused (.runRefused r)
    | none => k s

end Sys2Proof.Machine
end

