-- ==== Sys2Proof/Machine/HostCommands.lean ====
section
/-! DEFINITION. The meanings of the host commands RESET, START and NOP (spec/30_encoding.md R72;
spec/70_reset_and_hazards.md R220, R221; spec/44_sequencer.md R181, R189). -/

namespace Sys2Proof.Machine

/-- RESET (R220, R221): PHASE becomes IDLE and the data registers are draws; `start` is ignored; FAULT and REFUSED are
not cleared (R43). It is admitted in every phase (R220), but not in a faulted state (R216), nor in a refused run, which has
no further meaning (R206, R211; log entry 8). -/
def execReset (_start : Bool) (s : State) : StepOutcome :=
  s.whenLive fun s => .next (s.drawRegisters.goto .idle)

/-- START (R181): latched in IDLE and DONE, a fault in a reserved phase (R208), refused while busy (R206). -/
def execStart (s : State) : StepOutcome :=
  s.whenLive fun s =>
    match decodePhase s.phase with
    | .idle => .next (s.latchOperands.goto .pc1)
    | .done => .next (s.latchOperands.goto .pc1)
    | .reserved _ => takeFault .reservedPhase s
    | .pc1 => takeRefusal .startWhileBusy s
    | .ip => takeRefusal .startWhileBusy s
    | .fp => takeRefusal .startWhileBusy s
    | .ksrot _ => takeRefusal .startWhileBusy s
    | .round _ => takeRefusal .startWhileBusy s

/-- NOP (R189): the host changes nothing. When the core's enabled step is taken in the same transition, that transition
is the core's step and is fetched as such (Machine/Fetch.lean; log entry 2). -/
def execNop (s : State) : StepOutcome := s.whenLive .next

end Sys2Proof.Machine
end

