-- ==== Sys2Proof/Machine/Mangler.lean ====
section
/-! DEFINITION. The Feistel round mangler: expansion, key mixing, the S-boxes, the permutation P (spec/42_mangler.md). -/

namespace Sys2Proof.Machine

/-- `expand(r)` (R131). -/
def expand (r : Half32) : Expanded48 := permute 48 tableE r

/-- `key_mix(e, k)` (R133). -/
def keyMix (e : Expanded48) (k : RoundKey48) : Expanded48 := e ^^^ k

/-- The integer `SBOX[g][row][col]`, g in 0..7 (R137–R144). -/
def sboxEntry (g row col : Nat) : Nat := ((tableSbox.getD g []).getD row []).getD col 0

/-- `sbox(g, b)` (R145), g in 0..7. -/
def sbox (g : Nat) (b : BitVec 6) : BitVec 4 := bin4 (sboxEntry g (sboxRow b) (sboxCol b))

/-- `s_layer(x)` (R146): the outputs of the eight groups, in order. -/
def sLayer (x : Expanded48) : Half32 :=
  sbox 0 (sboxGroup x 0) ++ sbox 1 (sboxGroup x 1) ++ sbox 2 (sboxGroup x 2) ++ sbox 3 (sboxGroup x 3) ++
  sbox 4 (sboxGroup x 4) ++ sbox 5 (sboxGroup x 5) ++ sbox 6 (sboxGroup x 6) ++ sbox 7 (sboxGroup x 7)

/-- `p_perm(s)` (R148). -/
def pPerm (s : Half32) : Half32 := permute 32 tableP s

/-- `mangler(r, k)`, the round function f (R149). -/
def mangler (r : Half32) (k : RoundKey48) : Half32 := pPerm (sLayer (keyMix (expand r) k))

end Sys2Proof.Machine
end

