-- ==== Sys2Proof/Machine/Feistel.lean ====
section
/-! DEFINITION. The Feistel round engine (spec/41_feistel_round.md). -/

namespace Sys2Proof.Machine

/-- `feistel_round(l, r, k)` (R120). -/
def feistelRound (l r : Half32) (k : RoundKey48) : Half32 × Half32 := (r, l ^^^ mangler r k)

/-- (Ln, Rn) after n rounds (R121): round n uses key n, which is at index n − 1 of `ks`. -/
def lrAt (l0 r0 : Half32) (ks : Vector RoundKey48 16) : Nat → Half32 × Half32
  | 0 => (l0, r0)
  | n + 1 => feistelRound (lrAt l0 r0 ks n).1 (lrAt l0 r0 ks n).2 (ks.getD n 0)

/-- `feistel_rounds(l0, r0, ks)` (R121): R16 ++ L16, the right half first (R122). -/
def feistelRounds (l0 r0 : Half32) (ks : Vector RoundKey48 16) : Block64 :=
  join32 (lrAt l0 r0 ks 16).2 (lrAt l0 r0 ks 16).1

end Sys2Proof.Machine
end

