-- ==== Sys2Proof/Machine/KeySchedule.lean ====
section
/-! DEFINITION. The key schedule: PC-1, the C/D split and rotation, PC-2 (spec/40_key_schedule.md). Pure functions
(R111). -/

namespace Sys2Proof.Machine

/-- `pc1(k)` (R101). -/
def pc1 (k : Key64) : PermutedKey56 := permute 56 tablePC1 k

/-- `split(pk)` (R103). -/
def split (pk : PermutedKey56) : Half28 × Half28 := (slice 28 pk 0, slice 28 pk 28)

/-- `ks_rotate(n, c, d)` (R105): both halves, each by itself, left by SHIFT(n). -/
def ksRotate (n : Nat) (c d : Half28) : Half28 × Half28 :=
  (rotl c (shiftAmount n), rotl d (shiftAmount n))

/-- `pc2(cd)` (R108). -/
def pc2 (cd : PermutedKey56) : RoundKey48 := permute 48 tablePC2 cd

/-- (Cn, Dn) for the key k (R106). -/
def cdAt (k : Key64) : Nat → Half28 × Half28
  | 0 => split (pc1 k)
  | n + 1 => ksRotate (n + 1) (cdAt k n).1 (cdAt k n).2

/-- RoundKeyₙ for the key k, n in 1..16 (R109). -/
def roundKey (k : Key64) (n : Nat) : RoundKey48 := pc2 (join28 (cdAt k n).1 (cdAt k n).2)

/-- `key_schedule(k)` (R109): K[1..16], K[n] at index n − 1. -/
def keySchedule (k : Key64) : Vector RoundKey48 16 := Vector.ofFn fun i => roundKey k (i.val + 1)

end Sys2Proof.Machine
end

