-- ==== Sys2Proof/Machine/Driver.lean ====
section
/-! DEFINITION. The block cipher driver: IP, FP, the fixed-width cipher, and `encrypt_block` with its validation
(spec/43_driver.md; spec/60_exceptions.md R200–R205). -/

namespace Sys2Proof.Machine

/-- `ip(p)` (R161). -/
def ip (p : Block64) : Block64 := permute 64 tableIP p

/-- L0 and R0 (R161). -/
def ipHalves (p : Block64) : Half32 × Half32 := (slice 32 (ip p) 0, slice 32 (ip p) 32)

/-- `fp(x)` (R163). -/
def fp (x : Block64) : Block64 := permute 64 tableFP x

/-- `des_encrypt(p, k)` (R165): the source's steps (b) to (e). -/
def desEncrypt (p : Block64) (k : Key64) : Block64 :=
  fp (feistelRounds (ipHalves p).1 (ipHalves p).2 (keySchedule k))

/-- The error of `encrypt_block` (R200, R201): it carries no payload. -/
inductive EncryptError where
  | inputLengthError
  deriving DecidableEq, Repr

/-- What `encrypt_block` answers: a block, its one error, or a refusal (R166, R200). -/
inductive EncryptResult where
  | ok (ciphertext : Block64)
  | error (reason : EncryptError)
  | refused (reason : RefusalReason)
  deriving DecidableEq, Repr

/-- An element of a sequence of integers is a bit (R13, R202). -/
def isBit (e : Int) : Bool := e == 0 || e == 1

/-- The block whose elements are the given integers, 1 as a set bit. Applied to 64 elements in {0,1} only. -/
def blockOfElements (es : List Int) : Block64 := ofBits 64 (es.map fun e => e == 1)

/-- `encrypt_block(plaintext, key)` (R166) on sequences of integers of any length (log entry 14). The lengths are
checked first, before any table look-up (R203). -/
def encryptBlock (plaintext key : List Int) : EncryptResult :=
  if plaintext.length ≠ 64 ∨ key.length ≠ 64 then .error .inputLengthError
  else if !(plaintext.all isBit && key.all isBit) then .refused .notABit
  else .ok (desEncrypt (blockOfElements plaintext) (blockOfElements key))

/-- A call of `encrypt_block` in a run: what it returns, and the run's state after it. A refusal sets the REFUSED mark
(R42, R202), and nothing else of the state changes (R204). After an error the caller may call again; after a refusal or a
fault the run has no further meaning, so a later call has none (R211; log entry 14). -/
def callEncryptBlock (plaintext key : List Int) (s : State) : Host.Outcome (EncryptResult × State) Fault Refusal :=
  s.whenLive fun s =>
    match encryptBlock plaintext key with
    | .ok ct => .next (.ok ct, s)
    | .error e => .next (.error e, s)
    | .refused reason => .next (.refused reason, s.markRefused reason)

end Sys2Proof.Machine
end

