-- ==== Sys2Proof/Machine/Sequencer.lean ====
section
/-! DEFINITION. The meanings of the core's steps and holds, one for each phase row (spec/44_sequencer.md R182–R190). Every
read sees the state before the step (spec/00_scope.md R20). -/

namespace Sys2Proof.Machine

/-- IDLE (R187): no core step is enabled; nothing changes. -/
def execIdle (s : State) : StepOutcome := s.whenLive .next

/-- DONE (R188): no core step is enabled; nothing changes. -/
def execDone (s : State) : StepOutcome := s.whenLive .next

/-- PC1 (R182). -/
def execPc1 (s : State) : StepOutcome :=
  s.whenLive fun s => .next ((s.setCD (split (pc1 s.keyR))).goto (.ksrot 0))

/-- The successor of KSROT n: KSROT n+1, or IP after n = 16 (R183, R192). -/
def afterKsrot (idx : BitVec 4) : Phase := if roundNumber idx < 16 then .ksrot (idx + 1) else .ip

/-- C and D after KSROT n (R183, R105). -/
def rotatedHalves (idx : BitVec 4) (s : State) : Half28 × Half28 := ksRotate (roundNumber idx) s.c s.d

/-- KSROT n, n = idx + 1 (R183): KS[n] is made from the rotated halves. -/
def execKsrot (idx : BitVec 4) (s : State) : StepOutcome :=
  s.whenLive fun s =>
    .next (((s.setCD (rotatedHalves idx s)).setKS idx
      (pc2 (join28 (rotatedHalves idx s).1 (rotatedHalves idx s).2))).goto (afterKsrot idx))

/-- IP (R184). -/
def execIp (s : State) : StepOutcome :=
  s.whenLive fun s => .next ((s.setLR (ipHalves s.ptR)).goto (.round 0))

/-- The successor of ROUND n: ROUND n+1, or FP after n = 16 (R185, R192). -/
def afterRound (idx : BitVec 4) : Phase := if roundNumber idx < 16 then .round (idx + 1) else .fp

/-- ROUND n, n = idx + 1 (R185): both halves from the old L, the old R and KS[n]. -/
def execRound (idx : BitVec 4) (s : State) : StepOutcome :=
  s.whenLive fun s =>
    .next ((s.setLR (feistelRound s.l s.r (s.readKS idx))).goto (afterRound idx))

/-- FP (R186): the right half first. -/
def execFp (s : State) : StepOutcome :=
  s.whenLive fun s => .next ((s.setCT (fp (join32 s.r s.l))).goto .done)

/-- Reserved phase 0x05 (R190). -/
def execRsvd05 (s : State) : StepOutcome := s.whenLive (takeFault .reservedPhase)

/-- Reserved phases 0x06 and 0x07 (R190). -/
def execRsvd06 (_word : PhaseWord) (s : State) : StepOutcome := s.whenLive (takeFault .reservedPhase)

/-- Reserved phases 0x08 to 0x0F (R190). -/
def execRsvd08 (_word : PhaseWord) (s : State) : StepOutcome := s.whenLive (takeFault .reservedPhase)

/-- Reserved phases 0x30 to 0x3F (R190). -/
def execRsvd30 (_word : PhaseWord) (s : State) : StepOutcome := s.whenLive (takeFault .reservedPhase)

end Sys2Proof.Machine
end

