-- ==== Sys2Proof/Machine/Dispatch.lean ====
section
/-! DEFINITION. One arm for each instruction: the meaning of its opcode-table row. -/

namespace Sys2Proof.Machine

def exec (i : Instr) (s : State) : Host.Outcome State Fault Refusal :=
  match i with
  | .reset b => Sys2Proof.Machine.execReset b s
  | .start => Sys2Proof.Machine.execStart s
  | .nop => Sys2Proof.Machine.execNop s
  | .idle => Sys2Proof.Machine.execIdle s
  | .pc1 => Sys2Proof.Machine.execPc1 s
  | .ip => Sys2Proof.Machine.execIp s
  | .fp => Sys2Proof.Machine.execFp s
  | .done => Sys2Proof.Machine.execDone s
  | .rsvd05 => Sys2Proof.Machine.execRsvd05 s
  | .rsvd06 w => Sys2Proof.Machine.execRsvd06 w s
  | .rsvd08 w => Sys2Proof.Machine.execRsvd08 w s
  | .ksrot idx => Sys2Proof.Machine.execKsrot idx s
  | .round idx => Sys2Proof.Machine.execRound idx s
  | .rsvd30 w => Sys2Proof.Machine.execRsvd30 w s

end Sys2Proof.Machine
end

