-- ==== Sys2Proof/Machine/Fetch.lean ====
section
/-! DEFINITION. Which instruction a transition runs, and how the host's inputs move on (spec/44_sequencer.md R180, R189;
spec/60_exceptions.md R219). The core fetches nothing from memory (spec/30_encoding.md R70): the word is on the ports or
in PHASE. -/

namespace Sys2Proof.Machine

/-- The word that selects this transition: a RESET or START on the ports comes first (R219); with CMD = 00 it is the
phase word when the core moves, and the NOP otherwise (R180, R189; log entry 2). -/
def fetchWord (s : State) : CodeWord :=
  match decodeCmd s.cmdWord with
  | .reset _ => .cmd s.cmdWord
  | .start => .cmd s.cmdWord
  | .nop => if s.coreTurn then .phase s.phase else .cmd s.cmdWord

/-- The instruction of this transition. -/
def fetch (s : State) : Instr := decodeWord (fetchWord s)

/-- The host drives the ports, and the scheduler's choice goes with it (R21, R22, R180). -/
def State.drive (s : State) (h : HostInput) : State :=
  { s with keyIn := h.keyIn, ptIn := h.ptIn, start := h.start, rst := h.rst, coreTurn := h.coreTurn }

/-- A host input with no command, on operands as they are (R189). -/
def State.quietInput (s : State) (coreTurn : Bool) : HostInput :=
  { keyIn := s.keyIn, ptIn := s.ptIn, start := false, rst := false, coreTurn := coreTurn }

/-- After a transition the ports carry the next input of the script; after the script's end, no command, and the core
takes its enabled steps (R232; log entries 1 and 16). -/
def State.advanceHost (s : State) : State :=
  match s.script with
  | [] => s.drive (s.quietInput true)
  | h :: rest => { s.drive h with script := rest }

/-- What a step adds to its instruction: after a next state, the host's inputs move on. -/
def afterExec : StepOutcome → StepOutcome
  | .next s => .next s.advanceHost
  | .fault f => .fault f
  | .refused r => .refused r

/-- Put a word where the next transition reads it: a CMD word on the ports, with the core not moving; a phase word in
PHASE, with CMD = 00 and the core moving (log entries 12 and 13). -/
def State.placeWord (s : State) (nbits w : Nat) : State :=
  match codeWordOf nbits w with
  | .ok (.cmd v) => { s with rst := v.getLsbD 1, start := v.getLsbD 0, coreTurn := false }
  | .ok (.phase v) => { s with rst := false, start := false, coreTurn := true, phase := v }
  | .error _ => s

end Sys2Proof.Machine
end

