-- ==== Sys2Proof/Machine/Flags.lean ====
section
/-! DEFINITION. The status outputs and `ct_out` (spec/10_state.md R23, R33–R35). The core has no other flags (R37). They
have no value (none) once FAULT is set (R41), nor in a run that is refused (R206; log entry 9). -/

namespace Sys2Proof.Machine

/-- Neither mark is set: the spec gives the run a meaning. -/
def State.unmarked (s : State) : Bool := s.fault.isNone && s.refused.isNone

/-- `busy` as a function of PHASE (R33): neither IDLE nor DONE. So it is 1 in a reserved phase before a fault (DEDUCED,
log entry 10). -/
def busyOf (w : PhaseWord) : Bool := decodePhase w != .idle && decodePhase w != .done

/-- `done` as a function of PHASE (R34). -/
def doneOf (w : PhaseWord) : Bool := decodePhase w == .done

/-- The output `busy` (R33). -/
def State.busy (s : State) : Option Bool := if s.unmarked then some (busyOf s.phase) else none

/-- The output `done` (R34). -/
def State.done (s : State) : Option Bool := if s.unmarked then some (doneOf s.phase) else none

/-- The output `ct_out` (R35): CT at all times. -/
def State.ctOut (s : State) : Option Block64 := if s.unmarked then some s.ct else none

/-- What the host reads: `ct_out`, `busy` and `done`, with no side effect (R58, R80). -/
structure Outputs where
  ctOut : Option Block64
  busy : Option Bool
  done : Option Bool
  deriving DecidableEq, Repr

/-- A host read of the output ports (R58). -/
def State.outputs (s : State) : Outputs := { ctOut := s.ctOut, busy := s.busy, done := s.done }

end Sys2Proof.Machine
end

