-- ==== Sys2Proof/Machine/Step.lean ====
section
/-! DEFINITION. One transition of the machine (spec/44_sequencer.md R180): a host command or a core step, then the next
host input. -/

namespace Sys2Proof.Machine

/-- One transition: the fetched instruction, then the host's inputs move on. -/
def step (s : State) : Host.Outcome State Fault Refusal := afterExec (exec (fetch s) s)

/-- The state with an opcode-table word placed where the next step reads it (log entry 13). -/
def State.withFetchWord (s : State) (nbits w : Nat) : State := s.placeWord nbits w

end Sys2Proof.Machine
end

