-- ==== Sys2Proof/Machine/HostScript.lean ====
section
/-! DEFINITION. The host's scripts: the statements of spec/30_encoding.md R80, the pseudo-instructions of R81, and what a
run of them does to the machine. -/

namespace Sys2Proof.Machine

/-- An observed field of EXPECT (R80). -/
inductive ObsField where
  | ctOut
  | busy
  | done
  deriving DecidableEq, Repr

/-- A statement of a host script (R80), pseudo-instructions included (R81). -/
inductive Stmt where
  | reset
  | start (pt : Block64) (key : Key64)
  | nop
  /-- `STEP k`; `STEP` is `STEP 1`. -/
  | steps (k : Nat)
  | read
  | expect (field : ObsField) (value : Nat)
  | waitDone
  | encrypt (pt : Block64) (key : Key64)
  deriving DecidableEq, Repr

/-- A script's progress: the machine, what the READs observed, and whether each EXPECT held, latest first. -/
structure ScriptRun where
  state : State
  reads : List Outputs
  expects : List Bool
  deriving DecidableEq, Repr

/-- How a script ends. -/
inductive ScriptResult where
  | ran (run : ScriptRun)
  | fault (reason : Fault)
  | refused (reason : Refusal)
  /-- A WAIT_DONE that never ends (R81). -/
  | neverEnds
  deriving DecidableEq, Repr

/-- Go on with a run that has not stopped. -/
def ScriptResult.andThen (x : ScriptResult) (k : ScriptRun → ScriptResult) : ScriptResult :=
  match x with
  | .ran run => k run
  | .fault f => .fault f
  | .refused r => .refused r
  | .neverEnds => .neverEnds

/-- One transition under a host input. -/
def transition (h : HostInput) (s : State) : StepOutcome := step (s.drive h)

/-- One transition of a script. R216 says that a faulted state is never final, and R80 does not say how a script ends whose
last transition sets FAULT: it ends as `ran` with the marked state, and as `fault` only if one more transition is tried
(DESIGN CHOICE, log entry 28). -/
def ScriptRun.transition (h : HostInput) (run : ScriptRun) : ScriptResult :=
  match Machine.transition h run.state with
  | .next s => .ran { run with state := s }
  | .fault f => .fault f
  | .refused r => .refused r

/-- The input of RESET, CMD = 10 (R80). -/
def State.resetInput (s : State) : HostInput :=
  { keyIn := s.keyIn, ptIn := s.ptIn, start := false, rst := true, coreTurn := s.coreTurn }

/-- The input of `START pt, key`, CMD = 01 (R80). -/
def State.startInput (s : State) (pt : Block64) (key : Key64) : HostInput :=
  { keyIn := key, ptIn := pt, start := true, rst := false, coreTurn := s.coreTurn }

/-- `STEP k` (R80): the core takes its enabled step k times, CMD = 00. -/
def runSteps : Nat → ScriptRun → ScriptResult
  | 0, run => .ran run
  | k + 1, run => (run.transition (run.state.quietInput true)).andThen (runSteps k)

/-- STEP until done = 1, at most `fuel` times (R81). -/
def runUntilDone : Nat → ScriptRun → ScriptResult
  | 0, run => if run.state.done = some true then .ran run else .neverEnds
  | fuel + 1, run =>
    if run.state.done = some true then .ran run
    else (run.transition (run.state.quietInput true)).andThen (runUntilDone fuel)

/-- READ (R80): observe; no state change (R58). -/
def ScriptRun.read (run : ScriptRun) : ScriptRun := { run with reads := run.state.outputs :: run.reads }

/-- The observed value equals the expected one; an output with no value equals none (log entry 20). -/
def Outputs.matchesValue (o : Outputs) (field : ObsField) (value : Nat) : Bool :=
  match field with
  | .ctOut => o.ctOut.map BitVec.toNat == some value
  | .busy => o.busy.map Bool.toNat == some value
  | .done => o.done.map Bool.toNat == some value

/-- EXPECT (R80): an assertion on the observed value; no state change. R80 does not say whether that is the value the last
READ observed or the one observable now: it is taken from the outputs of the current state (DESIGN CHOICE, log entry
26). Nor does it say whether an assertion that fails ends the script: its failure is recorded in `expects`, and the script
goes on (DESIGN CHOICE, log entry 27). -/
def ScriptRun.expect (run : ScriptRun) (field : ObsField) (value : Nat) : ScriptRun :=
  { run with expects := run.state.outputs.matchesValue field value :: run.expects }

/-- The steps WAIT_DONE may need: from PC1 exactly 35 (R81, R191), from every later phase fewer. In IDLE, done stays 0
and it never ends. -/
def waitBound : Nat := 35

/-- What one statement does (R80, R81). A NOP leaves the scheduler's choice as the state has it (R189; log entry 20). -/
def Stmt.run (stmt : Stmt) (run : ScriptRun) : ScriptResult :=
  match stmt with
  | .reset => run.transition run.state.resetInput
  | .start pt key => run.transition (run.state.startInput pt key)
  | .nop => run.transition (run.state.quietInput run.state.coreTurn)
  | .steps k => runSteps k run
  | .read => .ran run.read
  | .expect field value => .ran (run.expect field value)
  | .waitDone => runUntilDone waitBound run
  | .encrypt pt key =>
    ((run.transition (run.state.startInput pt key)).andThen (runUntilDone waitBound)).andThen fun r => .ran r.read

/-- Run a script from a run so far. -/
def runScript : List Stmt → ScriptRun → ScriptResult
  | [], run => .ran run
  | stmt :: rest, run => (stmt.run run).andThen (runScript rest)

/-- Run a script from a state. -/
def scriptFrom (s : State) (script : List Stmt) : ScriptResult :=
  runScript script { state := s, reads := [], expects := [] }

end Sys2Proof.Machine
end

