-- ==== Sys2Proof/Safety.lean ====
section
/-! DEFINITION. What the claims call a run with a meaning, and the invariant that ties the registers to the cipher
(spec/10_state.md R40). -/

namespace Sys2Proof.Machine

/-- n transitions in a row, stopping at the first fault or refusal (R180: a run is a sequence of transitions). -/
def run : Nat → State → StepOutcome
  | 0, s => .next s
  | n + 1, s =>
    match step s with
    | .next t => run n t
    | .fault f => .fault f
    | .refused why => .refused why

/-- No mark is set (R41, R42): transitions have a meaning. -/
abbrev State.Live (s : State) : Prop := s.fault = none ∧ s.refused = none

/-- No command is on the ports and the core moves: the transition is the core's step. -/
abbrev State.CoreMoves (s : State) : Prop := s.rst = false ∧ s.start = false ∧ s.coreTurn = true

/-- C and D hold (Cn, Dn) of the latched key (R40). -/
abbrev State.HoldsCD (s : State) (n : Nat) : Prop := (s.c, s.d) = cdAt s.keyR n

/-- KS[1..n] hold the first n round keys of the latched key (R40). -/
abbrev State.HoldsKeys (s : State) (n : Nat) : Prop :=
  ∀ j : Fin 16, j.val < n → s.ks.get j = roundKey s.keyR (j.val + 1)

/-- (Ln, Rn) of the latched plaintext and key (R121). -/
def State.lrStage (s : State) (n : Nat) : Half32 × Half32 :=
  lrAt (ipHalves s.ptR).1 (ipHalves s.ptR).2 (keySchedule s.keyR) n

/-- L and R hold (Ln, Rn) of the latched operands (R40). -/
abbrev State.HoldsLR (s : State) (n : Nat) : Prop := (s.l, s.r) = s.lrStage n

/-- The table of R40: what the registers hold at the start of each phase, for the latched KEY_R and PT_R. KSROT n and
ROUND n have n = idx + 1. In IDLE and PC1 nothing is held; a reserved phase is never reached (R75). -/
def State.StageInv (s : State) : Prop :=
  match decodePhase s.phase with
  | .idle => True
  | .pc1 => True
  | .ksrot idx => s.HoldsCD idx.toNat ∧ s.HoldsKeys idx.toNat
  | .ip => s.HoldsCD 16 ∧ s.HoldsKeys 16
  | .round idx => s.HoldsCD 16 ∧ s.HoldsKeys 16 ∧ s.HoldsLR idx.toNat
  | .fp => s.HoldsCD 16 ∧ s.HoldsKeys 16 ∧ s.HoldsLR 16
  | .done => s.HoldsCD 16 ∧ s.HoldsKeys 16 ∧ s.HoldsLR 16 ∧ s.ct = fp (join32 s.r s.l)
  | .reserved _ => False

/-- Two states that agree on everything but the hidden registers KEY_R, PT_R, C, D, KS, L and R (R36, R38). -/
def State.SameVisible (s t : State) : Prop :=
  s.keyIn = t.keyIn ∧ s.ptIn = t.ptIn ∧ s.start = t.start ∧ s.rst = t.rst ∧ s.ct = t.ct ∧ s.phase = t.phase ∧
  s.fault = t.fault ∧ s.refused = t.refused ∧ s.coreTurn = t.coreTurn ∧ s.script = t.script ∧ s.draws = t.draws

/-- What a host input says about control: the two command bits and whose turn it is, without the operands. -/
def HostInput.control (h : HostInput) : Bool × Bool × Bool := (h.rst, h.start, h.coreTurn)

/-- Two states with the same control: phase, marks, command bits, turns, now and in the script (R193). -/
def State.SameControl (s t : State) : Prop :=
  s.phase = t.phase ∧ s.fault = t.fault ∧ s.refused = t.refused ∧ s.rst = t.rst ∧ s.start = t.start ∧
  s.coreTurn = t.coreTurn ∧ s.script.map HostInput.control = t.script.map HostInput.control

/-- A reserved phase word: 0x05 to 0x0F, and 0x30 to 0x3F (R75). -/
abbrev ReservedWord (w : PhaseWord) : Prop := (0x05#6 ≤ w ∧ w ≤ 0x0F#6) ∨ 0x30#6 ≤ w

/-- A phase word with no core step: IDLE or DONE (R187, R188). -/
abbrev HoldWord (w : PhaseWord) : Prop := w = 0x00#6 ∨ w = 0x04#6

/-- An input of the host with no command (R189). -/
abbrev HostInput.Quiet (h : HostInput) : Prop := h.rst = false ∧ h.start = false

end Sys2Proof.Machine
end

