-- ==== Sys2Proof/Certificates/Slice0/Obligations.lean ====
section
/-! DEFINITION. The statements for the provers: what the spec's rules say of the encodings, each instruction, the
marks, the cipher's functions, and whole runs. -/

open Sys2Proof Sys2Proof.Machine

/-! ## Encodings -/

/-- Decoding an encoded well-formed instruction gives it back: no bit of an encoding is dropped (R72, R74, R79). -/
def Obligations.EncodedInstructionDecodesBack : Prop :=
  ∀ i : Instr, i.WellFormed → decodeWord (encode i) = i

/-- Words written out from the tables of R72 and R74 decode to their rows. -/
def Obligations.TableWordsDecodeToTheirRows : Prop :=
  decodeWord (.cmd 0b10#2) = .reset false ∧ decodeWord (.cmd 0b11#2) = .reset true ∧
  decodeWord (.cmd 0b01#2) = .start ∧ decodeWord (.cmd 0b00#2) = .nop ∧
  decodeWord (.phase 0b000000#6) = .idle ∧ decodeWord (.phase 0b000001#6) = .pc1 ∧
  decodeWord (.phase 0b000010#6) = .ip ∧ decodeWord (.phase 0b000011#6) = .fp ∧
  decodeWord (.phase 0b000100#6) = .done ∧ decodeWord (.phase 0b000101#6) = .rsvd05 ∧
  decodeWord (.phase 0b000111#6) = .rsvd06 0x07#6 ∧ decodeWord (.phase 0b001000#6) = .rsvd08 0x08#6 ∧
  decodeWord (.phase 0b010000#6) = .ksrot 0#4 ∧ decodeWord (.phase 0b011111#6) = .ksrot 15#4 ∧
  decodeWord (.phase 0b100110#6) = .round 6#4 ∧ decodeWord (.phase 0b110000#6) = .rsvd30 0x30#6

/-- The complete phase assignment (R74), every one of the 64 words in exactly one row; 27 of them are reserved (R75). -/
def Obligations.EveryPhaseWordHasItsRow : Prop :=
  (∀ w : PhaseWord,
    (decodePhase w = .idle ↔ w = 0b000000#6) ∧ (decodePhase w = .pc1 ↔ w = 0b000001#6) ∧
    (decodePhase w = .ip ↔ w = 0b000010#6) ∧ (decodePhase w = .fp ↔ w = 0b000011#6) ∧
    (decodePhase w = .done ↔ w = 0b000100#6) ∧
    (decodePhase w = .reserved w ↔ ReservedWord w) ∧
    (decodePhase w = .ksrot (BitVec.ofNat 4 (w.toNat % 16)) ↔ 0x10#6 ≤ w ∧ w ≤ 0x1F#6) ∧
    (decodePhase w = .round (BitVec.ofNat 4 (w.toNat % 16)) ↔ 0x20#6 ≤ w ∧ w ≤ 0x2F#6)) ∧
  ((List.range 64).filter fun n => decodePhase (BitVec.ofNat 6 n) == .reserved (BitVec.ofNat 6 n)).length = 27

/-! ## The step -/

/-- One transition runs the instruction that the ports and PHASE select, RESET before START before the core's step
(R219), and then the host's inputs move on (the model's own script, log entries 1 and 2). -/
def Obligations.StepRunsTheSelectedInstruction : Prop :=
  (∀ (s : State) (i : Instr), decodeWord (fetchWord s) = i → i.WellFormed ∧ step s = afterExec (exec i s)) ∧
  (∀ s : State, s.rst = true → fetch s = .reset s.start) ∧
  (∀ s : State, s.rst = false → s.start = true → fetch s = .start) ∧
  (∀ s : State, s.rst = false → s.start = false → s.coreTurn = false → fetch s = .nop) ∧
  (∀ s : State, s.CoreMoves → fetch s = (decodePhase s.phase).instr) ∧
  (∀ (u : State) (h : HostInput) (rest : List HostInput), u.script = h :: rest →
    afterExec (.next u) = .next
      { u with keyIn := h.keyIn, ptIn := h.ptIn, start := h.start, rst := h.rst, coreTurn := h.coreTurn,
               script := rest }) ∧
  (∀ u : State, u.script = [] →
    afterExec (.next u) = .next { u with start := false, rst := false, coreTurn := true })

/-! ## Host commands -/

/-- RESET completes in every phase of a live run, and from a power-on state (R220, R221): PHASE is IDLE, the marks and the
ports are unchanged, `start` is ignored, and busy and done read 0. Nothing is said of the data registers, which are draws
(R43). The model's own choices here: no RESET in a refused run (log entry 8), the turn and the script are kept (log entry
23), and the marks are unset at power-on (log entry 17). -/
def Obligations.ResetCommandGoesToIdle : Prop :=
  (∀ (s : State) (b : Bool), s.Live →
    ∃ t, exec (.reset b) s = .next t ∧ t.phase = 0x00#6 ∧ t.fault = s.fault ∧ t.refused = s.refused ∧
      t.keyIn = s.keyIn ∧ t.ptIn = s.ptIn ∧ t.start = s.start ∧ t.rst = s.rst ∧ t.coreTurn = s.coreTurn ∧
      t.script = s.script ∧ (∀ b', exec (.reset b') s = exec (.reset b) s) ∧
      t.busy = some false ∧ t.done = some false) ∧
  (∀ (s : State) (b : Bool), ∃ t, exec (.reset b) s.powerOn = .next t ∧ t.phase = 0x00#6 ∧ t.Live)

/-- A RESET overrides START and the core's step (R219, R220): the step completes in IDLE, and the marks, the ports, the
turn and the script it leaves do not depend on `start`, on whose turn it is, on PHASE, or on any data register. Nothing is
said of the data registers it leaves, which are draws (R43; ResetDrawsEveryDataRegister). The turn and the script are the
model's own (log entry 1), and a refused run is left out (log entry 8). -/
def Obligations.StepWithRstEndsInIdle : Prop :=
  ∀ s s' : State, s.rst = true → s'.rst = true → s.Live → s'.Live → s.keyIn = s'.keyIn → s.ptIn = s'.ptIn →
    s.script = s'.script →
    ∃ t t', step s = .next t ∧ step s' = .next t' ∧ t.phase = 0x00#6 ∧ t'.phase = 0x00#6 ∧
      t.fault = t'.fault ∧ t.refused = t'.refused ∧ t.keyIn = t'.keyIn ∧ t.ptIn = t'.ptIn ∧
      t.start = t'.start ∧ t.rst = t'.rst ∧ t.coreTurn = t'.coreTurn ∧ t.script = t'.script

/-- START (R181): in IDLE and DONE it latches both operands and goes to PC1; in a reserved phase it faults; in every other
phase it is refused. Nothing else changes. -/
def Obligations.StartCommandByPhase : Prop :=
  (∀ s : State, s.Live → HoldWord s.phase →
    exec .start s = .next { s with keyR := s.keyIn, ptR := s.ptIn, phase := 0x01#6 } ∧
    State.busy { s with keyR := s.keyIn, ptR := s.ptIn, phase := 0x01#6 } = some true ∧
    State.done { s with keyR := s.keyIn, ptR := s.ptIn, phase := 0x01#6 } = some false) ∧
  (∀ s : State, s.Live → ReservedWord s.phase → exec .start s = .next { s with fault := some .reservedPhase }) ∧
  (∀ s : State, s.Live → ¬ HoldWord s.phase → ¬ ReservedWord s.phase →
    exec .start s = .next { s with refused := some .startWhileBusy })

/-- NOP, IDLE and DONE complete and change nothing (R187–R189): in the phases IDLE and DONE no core step is enabled, and
what runs there without a command holds everything. That a NOP of a busy phase changes nothing is R189 read with R180: the
core's step is then another transition (DESIGN CHOICE, log entry 2). In IDLE busy = 0 and done = 0; in DONE busy = 0 and
done = 1. -/
def Obligations.NopIdleAndDoneHoldEverything : Prop :=
  (∀ s : State, s.Live → exec .nop s = .next s ∧ exec .idle s = .next s ∧ exec .done s = .next s) ∧
  (∀ s : State, s.Live → HoldWord s.phase → exec (decodePhase s.phase).instr s = .next s) ∧
  (∀ s : State, s.Live → s.phase = 0x00#6 → s.busy = some false ∧ s.done = some false) ∧
  (∀ s : State, s.Live → s.phase = 0x04#6 → s.busy = some false ∧ s.done = some true)

/-- A step with no command in IDLE or DONE only moves the host's inputs on, whosever turn it is (R187–R189; the host's
inputs are the model's own fields, log entry 1). -/
def Obligations.HoldPhasesWaitForACommand : Prop :=
  ∀ s : State, s.Live → s.rst = false → s.start = false → HoldWord s.phase → step s = .next s.advanceHost

/-! ## Core steps -/

/-- PC1 (R182): (C, D) become split(pc1(KEY_R)), which is element by element the selection of table PC-1; PHASE becomes
KSROT 1; nothing else changes. -/
def Obligations.Pc1LoadsTheKeyHalves : Prop :=
  ∀ s : State, s.Live →
    exec .pc1 s = .next { s with c := (split (pc1 s.keyR)).1, d := (split (pc1 s.keyR)).2, phase := 0x10#6 } ∧
    ∀ i, i < 28 →
      elem (split (pc1 s.keyR)).1 i = elem s.keyR (tablePC1.getD i 0 - 1) ∧
      elem (split (pc1 s.keyR)).2 i = elem s.keyR (tablePC1.getD (28 + i) 0 - 1)

/-- KSROT n, n = idx + 1 (R183): C and D rotate left by SHIFT(n), each by itself; KS[n] becomes pc2 of the rotated halves;
PHASE becomes KSROT n+1, or IP after n = 16; nothing else changes. -/
def Obligations.KsrotRotatesAndWritesOneKey : Prop :=
  ∀ (idx : BitVec 4) (s : State), s.Live →
    exec (.ksrot idx) s = .next
      { s with
        c := rotl s.c (shiftAmount (idx.toNat + 1))
        d := rotl s.d (shiftAmount (idx.toNat + 1))
        ks := s.ks.set idx.toNat
          (pc2 (rotl s.c (shiftAmount (idx.toNat + 1)) ++ rotl s.d (shiftAmount (idx.toNat + 1)))) idx.isLt
        phase := if idx.toNat + 1 < 16 then BitVec.ofNat 6 (0x10 + (idx.toNat + 1)) else 0x02#6 }

/-- IP (R184): L and R become the halves of ip(PT_R), element by element the selection of table IP; PHASE becomes
ROUND 1; nothing else changes. -/
def Obligations.IpLoadsTheBlockHalves : Prop :=
  ∀ s : State, s.Live →
    exec .ip s = .next { s with l := slice 32 (ip s.ptR) 0, r := slice 32 (ip s.ptR) 32, phase := 0x20#6 } ∧
    ∀ i, i < 32 →
      elem (slice 32 (ip s.ptR) 0) i = elem s.ptR (tableIP.getD i 0 - 1) ∧
      elem (slice 32 (ip s.ptR) 32) i = elem s.ptR (tableIP.getD (32 + i) 0 - 1)

/-- ROUND n, n = idx + 1 (R185): L becomes the old R, and R the old L xor mangler(old R, KS[n]); PHASE becomes ROUND n+1,
or FP after n = 16; nothing else changes. -/
def Obligations.RoundUsesTheOldHalves : Prop :=
  ∀ (idx : BitVec 4) (s : State), s.Live →
    exec (.round idx) s = .next
      { s with
        l := s.r
        r := s.l ^^^ mangler s.r (s.ks.get idx.toFin)
        phase := if idx.toNat + 1 < 16 then BitVec.ofNat 6 (0x20 + (idx.toNat + 1)) else 0x03#6 }

/-- FP (R186): CT becomes fp(R ++ L), the right half first, element by element the selection of table FP; PHASE becomes
DONE, so done = 1 and busy = 0; nothing else changes. -/
def Obligations.FpWritesTheCiphertext : Prop :=
  ∀ s : State, s.Live →
    exec .fp s = .next { s with ct := fp (s.r ++ s.l), phase := 0x04#6 } ∧
    State.done { s with ct := fp (s.r ++ s.l), phase := 0x04#6 } = some true ∧
    State.busy { s with ct := fp (s.r ++ s.l), phase := 0x04#6 } = some false ∧
    ∀ i, i < 64 → elem (fp (s.r ++ s.l)) i = elem (s.r ++ s.l) (tableFP.getD i 0 - 1)

/-- The reserved rows (R190): the effect is the fault ReservedPhase, the FAULT mark; no register is written. The core's
step of every reserved phase word is one of them. -/
def Obligations.ReservedPhasesSetTheFaultMark : Prop :=
  (∀ s : State, s.Live →
    exec .rsvd05 s = .next { s with fault := some .reservedPhase } ∧
    (∀ w, exec (.rsvd06 w) s = .next { s with fault := some .reservedPhase }) ∧
    (∀ w, exec (.rsvd08 w) s = .next { s with fault := some .reservedPhase }) ∧
    (∀ w, exec (.rsvd30 w) s = .next { s with fault := some .reservedPhase })) ∧
  (∀ s : State, s.Live → ReservedWord s.phase →
    exec (decodePhase s.phase).instr s = .next { s with fault := some .reservedPhase })

/-- The next-phase table (R192): in a live run the core's step of each phase, and each admitted host command, writes exactly
this successor; the holds and the reserved phases write none. -/
def Obligations.NextPhaseTable : Prop :=
  (∀ s : State, s.Live →
    ∃ t, exec (decodePhase s.phase).instr s = .next t ∧
      (s.phase = 0x00#6 → t.phase = 0x00#6) ∧
      (s.phase = 0x01#6 → t.phase = 0x10#6) ∧
      (0x10#6 ≤ s.phase → s.phase < 0x1F#6 → t.phase = s.phase + 1#6) ∧
      (s.phase = 0x1F#6 → t.phase = 0x02#6) ∧
      (s.phase = 0x02#6 → t.phase = 0x20#6) ∧
      (0x20#6 ≤ s.phase → s.phase < 0x2F#6 → t.phase = s.phase + 1#6) ∧
      (s.phase = 0x2F#6 → t.phase = 0x03#6) ∧
      (s.phase = 0x03#6 → t.phase = 0x04#6) ∧
      (s.phase = 0x04#6 → t.phase = 0x04#6) ∧
      (ReservedWord s.phase → t.phase = s.phase ∧ t.fault = some .reservedPhase)) ∧
  (∀ (s t : State) (b : Bool), exec (.reset b) s = .next t → t.phase = 0x00#6) ∧
  (∀ s : State, s.Live → HoldWord s.phase → ∃ t, exec .start s = .next t ∧ t.phase = 0x01#6)

/-! ## Marks -/

/-- A fault sets FAULT and leaves the rest, and a faulted state has no successor: every command and every core step, RESET
included, stops with the fault, so the mark is never cleared (R216). -/
def Obligations.FaultedStateHasNoSuccessor : Prop :=
  (∀ (f : Fault) (s : State), takeFault f s = .next { s with fault := some f }) ∧
  (∀ (s : State) (f : Fault), s.fault = some f → (∀ i, exec i s = .fault f) ∧ step s = .fault f)

/-- A START in a busy phase sets REFUSED alone, and a refused run has no further meaning (R206, R211): every instruction,
RESET included, every step and every call of encrypt_block is refused. That RESET is among them is the model's reading of
R206 beside R220 (log entry 8); that a call is, of R211 (log entry 14). -/
def Obligations.RefusedRunHasNoFurtherMeaning : Prop :=
  (∀ s : State, s.Live →
    s.phase = 0x01#6 ∨ s.phase = 0x02#6 ∨ s.phase = 0x03#6 ∨ (0x10#6 ≤ s.phase ∧ s.phase ≤ 0x2F#6) →
    exec .start s = .next { s with refused := some .startWhileBusy }) ∧
  (∀ (s : State) (why : RefusalReason), s.fault = none → s.refused = some why →
    (∀ i : Instr, exec i s = .refused (.runRefused why)) ∧ step s = .refused (.runRefused why) ∧
    ∀ pt key : List Int, callEncryptBlock pt key s = .refused (.runRefused why))

/-- Of the instructions, only these set a mark (R206, R208): REFUSED only a START in a busy phase, with StartWhileBusy;
FAULT only a reserved row or a START in a reserved phase. None answers a next state where a mark is set, so none clears
one: with FAULT set this is R216; with REFUSED set, for RESET, it is the model's reading of R206 and R211 where R220 and R43
can be read otherwise (log entry 8). A call of encrypt_block, which is no instruction, can set REFUSED too (EncryptBlockCallChangesOnlyTheMark). -/
def Obligations.OnlyTheseInstructionsSetAMark : Prop :=
  ∀ (i : Instr) (s t : State), exec i s = .next t →
    s.Live ∧
    (t.refused ≠ none →
      i = .start ∧ t.refused = some .startWhileBusy ∧ ¬ HoldWord s.phase ∧ ¬ ReservedWord s.phase) ∧
    (t.fault ≠ none →
      (i = .start ∧ ReservedWord s.phase) ∨ i = .rsvd05 ∨ (∃ w, i = .rsvd06 w) ∨ (∃ w, i = .rsvd08 w) ∨
        ∃ w, i = .rsvd30 w)

/-- From an assigned phase with no fault, every step reaches only assigned phases and no fault (R75), so a run that
begins with RESET never faults. -/
def Obligations.AssignedPhasesLeadToAssignedPhases : Prop :=
  ∀ s t : State, s.fault = none → ¬ ReservedWord s.phase → step s = .next t →
    t.fault = none ∧ ¬ ReservedWord t.phase

/-! ## Frames and outputs -/

/-- Which instructions write which register, RESET's draws apart (R24–R31): KEY_R and PT_R only START; C and D only PC1 and
KSROT; KS[n] only KSROT n; L and R only IP and ROUND; CT only FP. -/
def Obligations.EachRegisterHasItsWriters : Prop :=
  ∀ (i : Instr) (s t : State), exec i s = .next t → (∀ b, i ≠ .reset b) →
    (i ≠ .start → t.keyR = s.keyR ∧ t.ptR = s.ptR) ∧
    (i ≠ .pc1 → (∀ idx, i ≠ .ksrot idx) → t.c = s.c ∧ t.d = s.d) ∧
    (∀ j : Fin 16, (∀ idx : BitVec 4, i = .ksrot idx → idx.toNat ≠ j.val) → t.ks.get j = s.ks.get j) ∧
    (i ≠ .ip → (∀ idx, i ≠ .round idx) → t.l = s.l ∧ t.r = s.r) ∧
    (i ≠ .fp → t.ct = s.ct) ∧
    t.draws = s.draws

/-- No instruction drives a port or moves the host's script; a step does so only between transitions. -/
def Obligations.InstructionsLeaveThePortsAlone : Prop :=
  ∀ (i : Instr) (s t : State), exec i s = .next t →
    t.keyIn = s.keyIn ∧ t.ptIn = s.ptIn ∧ t.start = s.start ∧ t.rst = s.rst ∧ t.coreTurn = s.coreTurn ∧
    t.script = s.script

/-- The values on key_in and pt_in have no effect outside a START (R58, R221, R226): any other instruction does the same
whatever they are. For RESET this says that its draws are the same ones under other ports: it compares one RESET with
itself, and rests on log entry 4, where a draw depends on the counter alone. -/
def Obligations.OperandPortsMatterOnlyToStart : Prop :=
  ∀ (i : Instr) (s : State) (k : Key64) (p : Block64), i ≠ .start →
    (∀ t, exec i s = .next t → exec i { s with keyIn := k, ptIn := p } = .next { t with keyIn := k, ptIn := p }) ∧
    (∀ f, exec i s = .fault f → exec i { s with keyIn := k, ptIn := p } = .fault f) ∧
    (∀ why, exec i s = .refused why → exec i { s with keyIn := k, ptIn := p } = .refused why)

/-- CT changes only in the FP step and in a RESET (R31, R227): while busy, ct_out is the previous result. -/
def Obligations.CiphertextStaysUntilFp : Prop :=
  ∀ s t : State, step s = .next t → s.rst = false → ¬ (s.CoreMoves ∧ s.phase = 0x03#6) → t.ct = s.ct

/-- The outputs of an unmarked state (R33–R35; busy in a reserved phase is log entry 10): busy exactly outside IDLE and
DONE, done exactly in DONE, ct_out = CT. With a mark they have no value (R41; for REFUSED the reading is log entry 9). -/
def Obligations.OutputsFollowPhaseAndCt : Prop :=
  (∀ s : State, s.Live →
    (s.busy = some true ↔ ¬ HoldWord s.phase) ∧ (s.busy = some false ↔ HoldWord s.phase) ∧
    (s.done = some true ↔ s.phase = 0x04#6) ∧ (s.done = some false ↔ s.phase ≠ 0x04#6) ∧
    s.ctOut = some s.ct) ∧
  (∀ s : State, ¬ s.Live → s.busy = none ∧ s.done = none ∧ s.ctOut = none)

/-- The values R43 gives exactly after a reset: PHASE is IDLE, busy and done are 0; and at the start of a run no mark is set
(log entries 7 and 8). -/
def Obligations.ResetStateValues : Prop :=
  State.reset.phase = 0x00#6 ∧ State.reset.busy = some false ∧ State.reset.done = some false ∧ State.reset.Live

/-- The host learns of the hidden registers only through the FP step (R36, R38): a step of two states that differ only in
KEY_R, PT_R, C, D, KS, L and R gives states that differ only there, and the same outputs, unless it is the FP step. A
RESET is left out: what CT holds after it has no law (R43). -/
def Obligations.HiddenRegistersShowOnlyThroughFp : Prop :=
  ∀ s s' t : State, s.SameVisible s' → s.rst = false → ¬ (s.CoreMoves ∧ s.phase = 0x03#6) → step s = .next t →
    ∃ t', step s' = .next t' ∧ t.SameVisible t' ∧ t.outputs = t'.outputs

/-! ## The cipher's functions -/

/-- FP is the inverse of IP (R164). -/
def Obligations.FinalPermutationInvertsInitial : Prop :=
  ∀ x : Block64, fp (ip x) = x ∧ ip (fp x) = x

/-- (Cn, Dn) is (C0, D0) rotated by the sum of the first n shifts (R106), and after 16 rounds it is (C0, D0) again
(R110). -/
def Obligations.KeyHalvesRotateByTheSumOfShifts : Prop :=
  (∀ (k : Key64) (n : Nat), n ≤ 16 →
    cdAt k n =
      (rotl (cdAt k 0).1 (((List.range n).map fun j => shiftAmount (j + 1)).sum % 28),
       rotl (cdAt k 0).2 (((List.range n).map fun j => shiftAmount (j + 1)).sum % 28))) ∧
  (∀ k : Key64, cdAt k 16 = cdAt k 0)

/-- The parity elements of the key have no effect (R102): keys that agree outside elements 7, 15, …, 63 have one schedule
and one ciphertext. -/
def Obligations.ParityElementsHaveNoEffect : Prop :=
  ∀ k k' : Key64, (∀ i, i < 64 → i % 8 ≠ 7 → elem k i = elem k' i) →
    keySchedule k = keySchedule k' ∧ ∀ p : Block64, desEncrypt p k = desEncrypt p k'

/-- The mangler, bit by bit from the tables E, S1 to S8 and P (R130–R149): output element j comes from S-box group
g = (P[j] − 1) / 4, whose six inputs are the expanded elements of r xor those of k. -/
def Obligations.ManglerElementByElement : Prop :=
  ∀ (r : Half32) (k : RoundKey48) (j : Nat), j < 32 →
    let q := tableP.getD j 0 - 1
    let x := fun i : Nat => elem r (tableE.getD (6 * (q / 4) + i) 0 - 1) ^^ elem k (6 * (q / 4) + i)
    elem (mangler r k) j =
      (sboxEntry (q / 4) (2 * (x 0).toNat + (x 5).toNat)
        (8 * (x 1).toNat + 4 * (x 2).toNat + 2 * (x 3).toNat + (x 4).toNat)).testBit (3 - q % 4)

/-- Complementing plaintext and key complements the ciphertext (R165). -/
def Obligations.ComplementedInputsGiveComplementedOutput : Prop :=
  ∀ (p : Block64) (k : Key64), desEncrypt (~~~p) (~~~k) = ~~~(desEncrypt p k)

/-- For a key whose C0 and D0 are each all zeros or all ones, the sixteen round keys are equal (R109) and encrypting
twice gives the plaintext back (R165). -/
def Obligations.WeakKeysEncryptTwiceToTheIdentity : Prop :=
  ∀ k : Key64, ((cdAt k 0).1 = 0 ∨ (cdAt k 0).1 = BitVec.allOnes 28) →
    ((cdAt k 0).2 = 0 ∨ (cdAt k 0).2 = BitVec.allOnes 28) →
    (∀ i j : Fin 16, (keySchedule k).get i = (keySchedule k).get j) ∧
    ∀ p : Block64, desEncrypt (desEncrypt p k) k = p

/-- `encrypt_block` on sequences of any length (R166): the length check first, then NotABit, then the cipher on the blocks
whose elements are the sequences'. -/
def Obligations.EncryptBlockValidatesThenEncrypts : Prop :=
  (∀ pt key : List Int, pt.length ≠ 64 ∨ key.length ≠ 64 → encryptBlock pt key = .error .inputLengthError) ∧
  (∀ pt key : List Int, pt.length = 64 → key.length = 64 → (∃ e, (e ∈ pt ∨ e ∈ key) ∧ e ≠ 0 ∧ e ≠ 1) →
    encryptBlock pt key = .refused .notABit) ∧
  (∀ p k : Block64,
    encryptBlock ((List.range 64).map fun i => if elem p i then 1 else 0)
      ((List.range 64).map fun i => if elem k i then 1 else 0) = .ok (desEncrypt p k))

/-- In a live run a call of `encrypt_block` returns what the function does and leaves the state as it is, but that a
NotABit refusal sets the REFUSED mark (R42, R202, R204). -/
def Obligations.EncryptBlockCallChangesOnlyTheMark : Prop :=
  ∀ (pt key : List Int) (s : State), s.Live →
    ∃ t, callEncryptBlock pt key s = .next (encryptBlock pt key, t) ∧
      ((∀ why, encryptBlock pt key ≠ .refused why) → t = s) ∧
      (encryptBlock pt key = .refused .notABit → t = { s with refused := some .notABit })

/-! ## Whole runs -/

/-- The invariant of R40, in the terms of the model: in every phase the registers hold the values of the cipher for the
latched key and plaintext. Every step keeps it, from every state that has it. -/
def Obligations.StageInvariantIsKept : Prop :=
  ∀ s t : State, s.StageInv → step s = .next t → t.StageInv

/-- The state after reset has the invariant of R40, and so has every state that a RESET leaves. -/
def Obligations.StageInvariantHoldsAfterReset : Prop :=
  State.reset.StageInv ∧ ∀ (s t : State) (b : Bool), exec (.reset b) s = .next t → t.StageInv

/-- Where the invariant of R40 holds and done = 1, ct_out is the ciphertext of the latched operands (R191, R225). -/
def Obligations.DoneShowsTheCiphertext : Prop :=
  ∀ s : State, s.StageInv → s.done = some true → s.ctOut = some (desEncrypt s.ptR s.keyR)

/-- One encryption (R191, R231): after a START in IDLE or DONE, whatever NOPs come between, the core finishes with its 35th
step and not before; ct_out is then the ciphertext of the operands on the ports at the START, and until then CT is
unchanged (R227). The host's inputs `us` after the START hold no command. -/
def Obligations.StartThenThirtyFiveStepsEncrypt : Prop :=
  ∀ (s : State) (us rest : List HostInput), s.Live → HoldWord s.phase → s.rst = false → s.start = true →
    s.script = us ++ rest → (∀ h ∈ us, h.Quiet) →
    ∃ t : State, Machine.run (1 + us.length) s = .next t ∧ t.Live ∧
      t.keyR = s.keyIn ∧ t.ptR = s.ptIn ∧
      (t.done = some true ↔ 35 ≤ us.countP (fun h => h.coreTurn)) ∧
      (35 ≤ us.countP (fun h => h.coreTurn) → t.ctOut = some (desEncrypt s.ptIn s.keyIn)) ∧
      (us.countP (fun h => h.coreTurn) < 35 → t.busy = some true ∧ t.ct = s.ct)

/-- `ENCRYPT pt, key` (R81), the hardware form of encrypt_block: from IDLE or DONE the script ends in DONE and its READ
observes the ciphertext. WAIT_DONE is bounded by 35 steps, the model's choice (log entry 20). -/
def Obligations.EncryptScriptReadsTheCiphertext : Prop :=
  ∀ (s : State) (p : Block64) (k : Key64), s.Live → HoldWord s.phase →
    ∃ run : ScriptRun, scriptFrom s [.encrypt p k] = .ran run ∧ run.state.phase = 0x04#6 ∧
      run.reads = [{ ctOut := some (desEncrypt p k), busy := some false, done := some true }]

/-- A started operation finishes (R232, bounded): with no command, no further input of the host and the core taking its
steps (the model's schedule after the script's end, log entry 16), DONE is reached within 35 steps. -/
def Obligations.StartedOperationFinishes : Prop :=
  ∀ s : State, s.Live → s.CoreMoves → s.script = [] → s.phase ≠ 0x00#6 → ¬ ReservedWord s.phase →
    ∃ n t, n ≤ 35 ∧ Machine.run n s = .next t ∧ t.phase = 0x04#6 ∧ t.Live

/-- No data-dependent control (R193): two runs with the same control (commands, turns, phase and marks) and any operands and
register values go through the same phases, for every number of steps, and stop alike. -/
def Obligations.ControlDoesNotDependOnData : Prop :=
  ∀ (n : Nat) (s s' t : State), s.SameControl s' → Machine.run n s = .next t →
    ∃ t' : State, Machine.run n s' = .next t' ∧ t.SameControl t'

/-! ## RESET's draws -/

/-- What a RESET leaves in the data registers is unspecified (R43, R221), whatever they held: each is a free value, of
which nothing is known, and no two are the same draw (the model's form of "draws with no law", log entry 4). -/
def Obligations.ResetDrawsEveryDataRegister : Prop :=
  ∀ (s t : State) (b : Bool), exec (.reset b) s = .next t →
    t.keyR = Config.draw 64 s.draws ∧ t.ptR = Config.draw 64 (s.draws + 1) ∧ t.c = Config.draw 28 (s.draws + 2) ∧
    t.d = Config.draw 28 (s.draws + 3) ∧ t.l = Config.draw 32 (s.draws + 4) ∧ t.r = Config.draw 32 (s.draws + 5) ∧
    t.ct = Config.draw 64 (s.draws + 6) ∧
    (∀ j : Fin 16, t.ks.get j = Config.draw 48 (s.draws + 7 + j.val)) ∧ t.draws = s.draws + 23
end

