-- ==== Sys2Proof/Laws/Bits.lean ====
section
/-! SUPPORT. The elements of what each sequence operation gives. -/

namespace Sys2Proof.Machine

theorem elem_ofBits {m : Nat} {bits : List Bool} (h : bits.length = m) (j : Nat) :
    elem (ofBits m bits) j = bits.getD j false := by
  subst h
  simp only [ofBits, BitVec.setWidth_eq]
  exact BitVec.getMsbD_ofBoolListBE

theorem elem_permute {w m : Nat} {table : List Nat} {x : BitVec w} (h : table.length = m) {j : Nat} (hj : j < m) :
    elem (permute m table x) j = elem x (table.getD j 0 - 1) := by
  have hl : j < table.length := h ▸ hj
  rw [permute, elem_ofBits (by simpa using h)]
  simp [List.getD_eq_getElem?_getD, hl]

theorem elem_slice {w m : Nat} {x : BitVec w} {a : Nat} (h : a + m ≤ w) {i : Nat} (hi : i < m) :
    elem (slice m x a) i = elem x (a + i) := by
  simp only [elem, slice, BitVec.getMsbD, BitVec.getLsbD_extractLsb']
  have h1 : w - a - m + (m - 1 - i) = w - 1 - (a + i) := by omega
  have h2 : m - 1 - i < m := by omega
  have h3 : a + i < w := by omega
  simp [hi, h1, h2, h3]

theorem elem_rotl {w : Nat} {x : BitVec w} {k i : Nat} (hi : i < w) : elem (rotl x k) i = elem x ((i + k) % w) := by
  simp [elem, rotl, BitVec.getMsbD_rotateLeft, hi, Nat.add_comm]

theorem elem_append {a b : Nat} (x : BitVec a) (y : BitVec b) (i : Nat) :
    elem (x ++ y) i = if i < a then elem x i else elem y (i - a) := by
  simp only [elem, BitVec.getMsbD_append]
  split <;> split <;> first | rfl | omega

theorem elem_join28 (x y : Half28) (i : Nat) : elem (join28 x y) i = if i < 28 then elem x i else elem y (i - 28) :=
  elem_append x y i

theorem elem_join32 (x y : Half32) (i : Nat) : elem (join32 x y) i = if i < 32 then elem x i else elem y (i - 32) :=
  elem_append x y i

theorem elem_xor {w : Nat} (x y : BitVec w) (i : Nat) : elem (x ^^^ y) i = (elem x i ^^ elem y i) := by
  simp [elem]

/-- Two sequences of one width are equal when their elements are. -/
theorem eq_of_elem {w : Nat} {x y : BitVec w} (h : ∀ i, i < w → elem x i = elem y i) : x = y :=
  BitVec.eq_of_getMsbD_eq h

theorem tablePC1_length : tablePC1.length = 56 := rfl
theorem tablePC2_length : tablePC2.length = 48 := rfl
theorem tableE_length : tableE.length = 48 := rfl
theorem tableP_length : tableP.length = 32 := rfl
theorem tableIP_length : tableIP.length = 64 := rfl
theorem tableFP_length : tableFP.length = 64 := rfl

theorem elem_pc1 (k : Key64) {j : Nat} (hj : j < 56) : elem (pc1 k) j = elem k (tablePC1.getD j 0 - 1) :=
  elem_permute tablePC1_length hj

theorem elem_pc2 (cd : PermutedKey56) {j : Nat} (hj : j < 48) : elem (pc2 cd) j = elem cd (tablePC2.getD j 0 - 1) :=
  elem_permute tablePC2_length hj

theorem elem_expand (r : Half32) {j : Nat} (hj : j < 48) : elem (expand r) j = elem r (tableE.getD j 0 - 1) :=
  elem_permute tableE_length hj

theorem elem_pPerm (s : Half32) {j : Nat} (hj : j < 32) : elem (pPerm s) j = elem s (tableP.getD j 0 - 1) :=
  elem_permute tableP_length hj

theorem elem_ip (p : Block64) {j : Nat} (hj : j < 64) : elem (ip p) j = elem p (tableIP.getD j 0 - 1) :=
  elem_permute tableIP_length hj

theorem elem_fp (x : Block64) {j : Nat} (hj : j < 64) : elem (fp x) j = elem x (tableFP.getD j 0 - 1) :=
  elem_permute tableFP_length hj

theorem sboxRow_lt (b : BitVec 6) : sboxRow b < 4 := by
  have h0 := Bool.toNat_lt (elem b 0)
  have h5 := Bool.toNat_lt (elem b 5)
  unfold sboxRow
  omega

theorem sboxCol_lt (b : BitVec 6) : sboxCol b < 16 := by
  have h1 := Bool.toNat_lt (elem b 1)
  have h2 := Bool.toNat_lt (elem b 2)
  have h3 := Bool.toNat_lt (elem b 3)
  have h4 := Bool.toNat_lt (elem b 4)
  unfold sboxCol
  omega

end Sys2Proof.Machine
end

