-- ==== Sys2Proof/Laws/Cipher.lean ====
section
/-! SUPPORT. The cipher's functions one round and one group at a time. -/

namespace Sys2Proof.Machine

theorem cdAt_zero (k : Key64) : cdAt k 0 = split (pc1 k) := rfl

theorem cdAt_succ (k : Key64) (n : Nat) : cdAt k (n + 1) = ksRotate (n + 1) (cdAt k n).1 (cdAt k n).2 := rfl

theorem lrAt_zero (l r : Half32) (ks : Vector RoundKey48 16) : lrAt l r ks 0 = (l, r) := rfl

theorem lrAt_succ (l r : Half32) (ks : Vector RoundKey48 16) (n : Nat) :
    lrAt l r ks (n + 1) = feistelRound (lrAt l r ks n).1 (lrAt l r ks n).2 (ks.getD n 0) := rfl

theorem keySchedule_get (k : Key64) (i : Fin 16) : (keySchedule k).get i = roundKey k (i.val + 1) := by
  simp [keySchedule, Vector.get_eq_getElem]

theorem keySchedule_getD (k : Key64) {n : Nat} (h : n < 16) : (keySchedule k).getD n 0 = roundKey k (n + 1) := by
  simp [keySchedule, Vector.getD, h]

theorem elem_split_c (pk : PermutedKey56) {i : Nat} (hi : i < 28) : elem (split pk).1 i = elem pk i := by
  simp only [split]
  rw [elem_slice (by omega) hi, Nat.zero_add]

theorem elem_split_d (pk : PermutedKey56) {i : Nat} (hi : i < 28) : elem (split pk).2 i = elem pk (28 + i) := by
  simp only [split]
  rw [elem_slice (by omega) hi]

theorem elem_sboxGroup (x : Expanded48) {g i : Nat} (hg : g < 8) (hi : i < 6) :
    elem (sboxGroup x g) i = elem x (6 * g + i) := by
  rw [sboxGroup, elem_slice (by omega) hi]

theorem elem_bin4 : ∀ v, v < 16 → ∀ i, i < 4 → elem (bin4 v) i = v.testBit (3 - i) := by decide

/-- The tables S1 to S8 have 4 rows of 16 columns with values in [0,15] (R137–R144). -/
theorem sboxEntry_lt : ∀ g, g < 8 → ∀ row, row < 4 → ∀ col, col < 16 → sboxEntry g row col < 16 := by decide

/-- Output elements 4g to 4g + 3 come from group g (R146). -/
theorem elem_sLayer (x : Expanded48) {q : Nat} (hq : q < 32) :
    elem (sLayer x) q = elem (sbox (q / 4) (sboxGroup x (q / 4))) (q % 4) := by
  simp only [sLayer, elem_append]
  interval_cases q <;> simp

end Sys2Proof.Machine
end

