-- ==== Sys2Proof/Laws/Decode.lean ====
section
/-! SUPPORT. The decoders and encoders undo each other on each word format. -/

namespace Sys2Proof

theorem decodeCmd_encodeCmd (c : Cmd) : decodeCmd (encodeCmd c) = c := by
  cases c with
  | reset b => cases b <;> decide
  | start => decide
  | nop => decide

theorem encodeCmd_decodeCmd : ∀ w : CmdWord, encodeCmd (decodeCmd w) = w := by decide

theorem encodePhase_decodePhase : ∀ w : PhaseWord, encodePhase (decodePhase w) = w := by decide

theorem decodePhase_ksrot : ∀ idx : BitVec 4, decodePhase (encodePhase (.ksrot idx)) = .ksrot idx := by decide

theorem decodePhase_round : ∀ idx : BitVec 4, decodePhase (encodePhase (.round idx)) = .round idx := by decide

@[simp] theorem decodePhase_idle : decodePhase (encodePhase .idle) = .idle := by decide
@[simp] theorem decodePhase_pc1 : decodePhase (encodePhase .pc1) = .pc1 := by decide
@[simp] theorem decodePhase_ip : decodePhase (encodePhase .ip) = .ip := by decide
@[simp] theorem decodePhase_fp : decodePhase (encodePhase .fp) = .fp := by decide
@[simp] theorem decodePhase_done : decodePhase (encodePhase .done) = .done := by decide

end Sys2Proof
end

