-- ==== Sys2Proof/Laws/Outcomes.lean ====
section
/-! SUPPORT. When a transition or a call is defined, said once for the shared operations of Machine/Ops.lean and for the step. -/

namespace Sys2Proof.Machine

variable {α : Type} {s : State}

theorem State.whenLive_of_live (h : s.Live) (k : State → Host.Outcome α Fault Refusal) : s.whenLive k = k s := by
  simp [State.whenLive, h.1, h.2]

theorem State.whenLive_of_fault {f : Fault} (h : s.fault = some f) (k : State → Host.Outcome α Fault Refusal) :
    s.whenLive k = .fault f := by
  simp [State.whenLive, h]

theorem State.whenLive_of_refused {why : RefusalReason} (hf : s.fault = none) (h : s.refused = some why)
    (k : State → Host.Outcome α Fault Refusal) : s.whenLive k = .refused (.runRefused why) := by
  simp [State.whenLive, hf, h]

/-- What needs a live run goes on only in one, and then as its body does. -/
theorem State.whenLive_next {t : α} {k : State → Host.Outcome α Fault Refusal} (h : s.whenLive k = .next t) :
    s.Live ∧ k s = .next t := by
  cases hf : s.fault with
  | some f => simp [State.whenLive, hf] at h
  | none =>
    cases hr : s.refused with
    | some why => simp [State.whenLive, hf, hr] at h
    | none => exact ⟨⟨hf, hr⟩, by simpa [State.whenLive, hf, hr] using h⟩

/-- Everything a call of encrypt_block can do in a run. -/
theorem callEncryptBlock_next {pt key : List Int} {x : EncryptResult} {t : State}
    (h : callEncryptBlock pt key s = .next (x, t)) :
    s.Live ∧ x = encryptBlock pt key ∧ (t = s ∨ ∃ why, x = .refused why ∧ t = s.markRefused why) := by
  obtain ⟨hl, hk⟩ := State.whenLive_next h
  refine ⟨hl, ?_⟩
  cases he : encryptBlock pt key with
  | ok ct => rw [he] at hk; cases hk; exact ⟨rfl, .inl rfl⟩
  | error e => rw [he] at hk; cases hk; exact ⟨rfl, .inl rfl⟩
  | refused why => rw [he] at hk; cases hk; exact ⟨rfl, .inr ⟨why, rfl, rfl⟩⟩

@[simp] theorem afterExec_next (s : State) : afterExec (.next s) = .next s.advanceHost := rfl
@[simp] theorem afterExec_fault (f : Fault) : afterExec (.fault f) = .fault f := rfl
@[simp] theorem afterExec_refused (why : Refusal) : afterExec (.refused why) = .refused why := rfl

/-- A step answers a next state exactly when its instruction does; the host's inputs then move on. -/
theorem step_next {s t : State} (h : step s = .next t) :
    ∃ u, exec (fetch s) s = .next u ∧ t = u.advanceHost := by
  unfold step at h
  cases he : exec (fetch s) s with
  | next u => rw [he] at h; exact ⟨u, rfl, by simpa using h.symm⟩
  | fault f => rw [he] at h; simp at h
  | refused why => rw [he] at h; simp at h

theorem run_zero (s : State) : run 0 s = .next s := rfl

theorem run_succ_of_next {s t : State} (h : step s = .next t) (n : Nat) : run (n + 1) s = run n t := by
  simp only [run, h]

/-- A run that answers a next state after n + 1 steps makes a first step that does. -/
theorem run_succ_next {n : Nat} {s t : State} (h : run (n + 1) s = .next t) :
    ∃ u, step s = .next u ∧ run n u = .next t := by
  simp only [run] at h
  cases hs : step s with
  | next u => exact ⟨u, rfl, by simpa [hs] using h⟩
  | fault f => simp [hs] at h
  | refused why => simp [hs] at h

end Sys2Proof.Machine
end

