-- ==== Sys2Proof/Laws/State.lean ====
section
/-! SUPPORT. What each named operation does to each field of the state, by rfl. -/

namespace Sys2Proof.Machine

/-! `State.goto` -/

@[simp] theorem State.goto_keyIn (s : State) (p : Phase) : (s.goto p).keyIn = s.keyIn := rfl
@[simp] theorem State.goto_ptIn (s : State) (p : Phase) : (s.goto p).ptIn = s.ptIn := rfl
@[simp] theorem State.goto_start (s : State) (p : Phase) : (s.goto p).start = s.start := rfl
@[simp] theorem State.goto_rst (s : State) (p : Phase) : (s.goto p).rst = s.rst := rfl
@[simp] theorem State.goto_keyR (s : State) (p : Phase) : (s.goto p).keyR = s.keyR := rfl
@[simp] theorem State.goto_ptR (s : State) (p : Phase) : (s.goto p).ptR = s.ptR := rfl
@[simp] theorem State.goto_c (s : State) (p : Phase) : (s.goto p).c = s.c := rfl
@[simp] theorem State.goto_d (s : State) (p : Phase) : (s.goto p).d = s.d := rfl
@[simp] theorem State.goto_ks (s : State) (p : Phase) : (s.goto p).ks = s.ks := rfl
@[simp] theorem State.goto_l (s : State) (p : Phase) : (s.goto p).l = s.l := rfl
@[simp] theorem State.goto_r (s : State) (p : Phase) : (s.goto p).r = s.r := rfl
@[simp] theorem State.goto_ct (s : State) (p : Phase) : (s.goto p).ct = s.ct := rfl
@[simp] theorem State.goto_phase (s : State) (p : Phase) : (s.goto p).phase = encodePhase p := rfl
@[simp] theorem State.goto_fault (s : State) (p : Phase) : (s.goto p).fault = s.fault := rfl
@[simp] theorem State.goto_refused (s : State) (p : Phase) : (s.goto p).refused = s.refused := rfl
@[simp] theorem State.goto_coreTurn (s : State) (p : Phase) : (s.goto p).coreTurn = s.coreTurn := rfl
@[simp] theorem State.goto_script (s : State) (p : Phase) : (s.goto p).script = s.script := rfl
@[simp] theorem State.goto_draws (s : State) (p : Phase) : (s.goto p).draws = s.draws := rfl

/-! `State.latchOperands` -/

@[simp] theorem State.latchOperands_keyIn (s : State) : (s.latchOperands).keyIn = s.keyIn := rfl
@[simp] theorem State.latchOperands_ptIn (s : State) : (s.latchOperands).ptIn = s.ptIn := rfl
@[simp] theorem State.latchOperands_start (s : State) : (s.latchOperands).start = s.start := rfl
@[simp] theorem State.latchOperands_rst (s : State) : (s.latchOperands).rst = s.rst := rfl
@[simp] theorem State.latchOperands_keyR (s : State) : (s.latchOperands).keyR = s.keyIn := rfl
@[simp] theorem State.latchOperands_ptR (s : State) : (s.latchOperands).ptR = s.ptIn := rfl
@[simp] theorem State.latchOperands_c (s : State) : (s.latchOperands).c = s.c := rfl
@[simp] theorem State.latchOperands_d (s : State) : (s.latchOperands).d = s.d := rfl
@[simp] theorem State.latchOperands_ks (s : State) : (s.latchOperands).ks = s.ks := rfl
@[simp] theorem State.latchOperands_l (s : State) : (s.latchOperands).l = s.l := rfl
@[simp] theorem State.latchOperands_r (s : State) : (s.latchOperands).r = s.r := rfl
@[simp] theorem State.latchOperands_ct (s : State) : (s.latchOperands).ct = s.ct := rfl
@[simp] theorem State.latchOperands_phase (s : State) : (s.latchOperands).phase = s.phase := rfl
@[simp] theorem State.latchOperands_fault (s : State) : (s.latchOperands).fault = s.fault := rfl
@[simp] theorem State.latchOperands_refused (s : State) : (s.latchOperands).refused = s.refused := rfl
@[simp] theorem State.latchOperands_coreTurn (s : State) : (s.latchOperands).coreTurn = s.coreTurn := rfl
@[simp] theorem State.latchOperands_script (s : State) : (s.latchOperands).script = s.script := rfl
@[simp] theorem State.latchOperands_draws (s : State) : (s.latchOperands).draws = s.draws := rfl

/-! `State.setCD` -/

@[simp] theorem State.setCD_keyIn (s : State) (cd : Half28 × Half28) : (s.setCD cd).keyIn = s.keyIn := rfl
@[simp] theorem State.setCD_ptIn (s : State) (cd : Half28 × Half28) : (s.setCD cd).ptIn = s.ptIn := rfl
@[simp] theorem State.setCD_start (s : State) (cd : Half28 × Half28) : (s.setCD cd).start = s.start := rfl
@[simp] theorem State.setCD_rst (s : State) (cd : Half28 × Half28) : (s.setCD cd).rst = s.rst := rfl
@[simp] theorem State.setCD_keyR (s : State) (cd : Half28 × Half28) : (s.setCD cd).keyR = s.keyR := rfl
@[simp] theorem State.setCD_ptR (s : State) (cd : Half28 × Half28) : (s.setCD cd).ptR = s.ptR := rfl
@[simp] theorem State.setCD_c (s : State) (cd : Half28 × Half28) : (s.setCD cd).c = cd.1 := rfl
@[simp] theorem State.setCD_d (s : State) (cd : Half28 × Half28) : (s.setCD cd).d = cd.2 := rfl
@[simp] theorem State.setCD_ks (s : State) (cd : Half28 × Half28) : (s.setCD cd).ks = s.ks := rfl
@[simp] theorem State.setCD_l (s : State) (cd : Half28 × Half28) : (s.setCD cd).l = s.l := rfl
@[simp] theorem State.setCD_r (s : State) (cd : Half28 × Half28) : (s.setCD cd).r = s.r := rfl
@[simp] theorem State.setCD_ct (s : State) (cd : Half28 × Half28) : (s.setCD cd).ct = s.ct := rfl
@[simp] theorem State.setCD_phase (s : State) (cd : Half28 × Half28) : (s.setCD cd).phase = s.phase := rfl
@[simp] theorem State.setCD_fault (s : State) (cd : Half28 × Half28) : (s.setCD cd).fault = s.fault := rfl
@[simp] theorem State.setCD_refused (s : State) (cd : Half28 × Half28) : (s.setCD cd).refused = s.refused := rfl
@[simp] theorem State.setCD_coreTurn (s : State) (cd : Half28 × Half28) : (s.setCD cd).coreTurn = s.coreTurn := rfl
@[simp] theorem State.setCD_script (s : State) (cd : Half28 × Half28) : (s.setCD cd).script = s.script := rfl
@[simp] theorem State.setCD_draws (s : State) (cd : Half28 × Half28) : (s.setCD cd).draws = s.draws := rfl

/-! `State.setKS` -/

@[simp] theorem State.setKS_keyIn (s : State) (idx : BitVec 4) (v : RoundKey48) : (s.setKS idx v).keyIn = s.keyIn := rfl
@[simp] theorem State.setKS_ptIn (s : State) (idx : BitVec 4) (v : RoundKey48) : (s.setKS idx v).ptIn = s.ptIn := rfl
@[simp] theorem State.setKS_start (s : State) (idx : BitVec 4) (v : RoundKey48) : (s.setKS idx v).start = s.start := rfl
@[simp] theorem State.setKS_rst (s : State) (idx : BitVec 4) (v : RoundKey48) : (s.setKS idx v).rst = s.rst := rfl
@[simp] theorem State.setKS_keyR (s : State) (idx : BitVec 4) (v : RoundKey48) : (s.setKS idx v).keyR = s.keyR := rfl
@[simp] theorem State.setKS_ptR (s : State) (idx : BitVec 4) (v : RoundKey48) : (s.setKS idx v).ptR = s.ptR := rfl
@[simp] theorem State.setKS_c (s : State) (idx : BitVec 4) (v : RoundKey48) : (s.setKS idx v).c = s.c := rfl
@[simp] theorem State.setKS_d (s : State) (idx : BitVec 4) (v : RoundKey48) : (s.setKS idx v).d = s.d := rfl
@[simp] theorem State.setKS_ks (s : State) (idx : BitVec 4) (v : RoundKey48) : (s.setKS idx v).ks = s.ks.set idx.toNat v idx.isLt := rfl
@[simp] theorem State.setKS_l (s : State) (idx : BitVec 4) (v : RoundKey48) : (s.setKS idx v).l = s.l := rfl
@[simp] theorem State.setKS_r (s : State) (idx : BitVec 4) (v : RoundKey48) : (s.setKS idx v).r = s.r := rfl
@[simp] theorem State.setKS_ct (s : State) (idx : BitVec 4) (v : RoundKey48) : (s.setKS idx v).ct = s.ct := rfl
@[simp] theorem State.setKS_phase (s : State) (idx : BitVec 4) (v : RoundKey48) : (s.setKS idx v).phase = s.phase := rfl
@[simp] theorem State.setKS_fault (s : State) (idx : BitVec 4) (v : RoundKey48) : (s.setKS idx v).fault = s.fault := rfl
@[simp] theorem State.setKS_refused (s : State) (idx : BitVec 4) (v : RoundKey48) : (s.setKS idx v).refused = s.refused := rfl
@[simp] theorem State.setKS_coreTurn (s : State) (idx : BitVec 4) (v : RoundKey48) : (s.setKS idx v).coreTurn = s.coreTurn := rfl
@[simp] theorem State.setKS_script (s : State) (idx : BitVec 4) (v : RoundKey48) : (s.setKS idx v).script = s.script := rfl
@[simp] theorem State.setKS_draws (s : State) (idx : BitVec 4) (v : RoundKey48) : (s.setKS idx v).draws = s.draws := rfl

/-! `State.setLR` -/

@[simp] theorem State.setLR_keyIn (s : State) (lr : Half32 × Half32) : (s.setLR lr).keyIn = s.keyIn := rfl
@[simp] theorem State.setLR_ptIn (s : State) (lr : Half32 × Half32) : (s.setLR lr).ptIn = s.ptIn := rfl
@[simp] theorem State.setLR_start (s : State) (lr : Half32 × Half32) : (s.setLR lr).start = s.start := rfl
@[simp] theorem State.setLR_rst (s : State) (lr : Half32 × Half32) : (s.setLR lr).rst = s.rst := rfl
@[simp] theorem State.setLR_keyR (s : State) (lr : Half32 × Half32) : (s.setLR lr).keyR = s.keyR := rfl
@[simp] theorem State.setLR_ptR (s : State) (lr : Half32 × Half32) : (s.setLR lr).ptR = s.ptR := rfl
@[simp] theorem State.setLR_c (s : State) (lr : Half32 × Half32) : (s.setLR lr).c = s.c := rfl
@[simp] theorem State.setLR_d (s : State) (lr : Half32 × Half32) : (s.setLR lr).d = s.d := rfl
@[simp] theorem State.setLR_ks (s : State) (lr : Half32 × Half32) : (s.setLR lr).ks = s.ks := rfl
@[simp] theorem State.setLR_l (s : State) (lr : Half32 × Half32) : (s.setLR lr).l = lr.1 := rfl
@[simp] theorem State.setLR_r (s : State) (lr : Half32 × Half32) : (s.setLR lr).r = lr.2 := rfl
@[simp] theorem State.setLR_ct (s : State) (lr : Half32 × Half32) : (s.setLR lr).ct = s.ct := rfl
@[simp] theorem State.setLR_phase (s : State) (lr : Half32 × Half32) : (s.setLR lr).phase = s.phase := rfl
@[simp] theorem State.setLR_fault (s : State) (lr : Half32 × Half32) : (s.setLR lr).fault = s.fault := rfl
@[simp] theorem State.setLR_refused (s : State) (lr : Half32 × Half32) : (s.setLR lr).refused = s.refused := rfl
@[simp] theorem State.setLR_coreTurn (s : State) (lr : Half32 × Half32) : (s.setLR lr).coreTurn = s.coreTurn := rfl
@[simp] theorem State.setLR_script (s : State) (lr : Half32 × Half32) : (s.setLR lr).script = s.script := rfl
@[simp] theorem State.setLR_draws (s : State) (lr : Half32 × Half32) : (s.setLR lr).draws = s.draws := rfl

/-! `State.setCT` -/

@[simp] theorem State.setCT_keyIn (s : State) (v : Block64) : (s.setCT v).keyIn = s.keyIn := rfl
@[simp] theorem State.setCT_ptIn (s : State) (v : Block64) : (s.setCT v).ptIn = s.ptIn := rfl
@[simp] theorem State.setCT_start (s : State) (v : Block64) : (s.setCT v).start = s.start := rfl
@[simp] theorem State.setCT_rst (s : State) (v : Block64) : (s.setCT v).rst = s.rst := rfl
@[simp] theorem State.setCT_keyR (s : State) (v : Block64) : (s.setCT v).keyR = s.keyR := rfl
@[simp] theorem State.setCT_ptR (s : State) (v : Block64) : (s.setCT v).ptR = s.ptR := rfl
@[simp] theorem State.setCT_c (s : State) (v : Block64) : (s.setCT v).c = s.c := rfl
@[simp] theorem State.setCT_d (s : State) (v : Block64) : (s.setCT v).d = s.d := rfl
@[simp] theorem State.setCT_ks (s : State) (v : Block64) : (s.setCT v).ks = s.ks := rfl
@[simp] theorem State.setCT_l (s : State) (v : Block64) : (s.setCT v).l = s.l := rfl
@[simp] theorem State.setCT_r (s : State) (v : Block64) : (s.setCT v).r = s.r := rfl
@[simp] theorem State.setCT_ct (s : State) (v : Block64) : (s.setCT v).ct = v := rfl
@[simp] theorem State.setCT_phase (s : State) (v : Block64) : (s.setCT v).phase = s.phase := rfl
@[simp] theorem State.setCT_fault (s : State) (v : Block64) : (s.setCT v).fault = s.fault := rfl
@[simp] theorem State.setCT_refused (s : State) (v : Block64) : (s.setCT v).refused = s.refused := rfl
@[simp] theorem State.setCT_coreTurn (s : State) (v : Block64) : (s.setCT v).coreTurn = s.coreTurn := rfl
@[simp] theorem State.setCT_script (s : State) (v : Block64) : (s.setCT v).script = s.script := rfl
@[simp] theorem State.setCT_draws (s : State) (v : Block64) : (s.setCT v).draws = s.draws := rfl

/-! `State.markFault` -/

@[simp] theorem State.markFault_keyIn (s : State) (f : Fault) : (s.markFault f).keyIn = s.keyIn := rfl
@[simp] theorem State.markFault_ptIn (s : State) (f : Fault) : (s.markFault f).ptIn = s.ptIn := rfl
@[simp] theorem State.markFault_start (s : State) (f : Fault) : (s.markFault f).start = s.start := rfl
@[simp] theorem State.markFault_rst (s : State) (f : Fault) : (s.markFault f).rst = s.rst := rfl
@[simp] theorem State.markFault_keyR (s : State) (f : Fault) : (s.markFault f).keyR = s.keyR := rfl
@[simp] theorem State.markFault_ptR (s : State) (f : Fault) : (s.markFault f).ptR = s.ptR := rfl
@[simp] theorem State.markFault_c (s : State) (f : Fault) : (s.markFault f).c = s.c := rfl
@[simp] theorem State.markFault_d (s : State) (f : Fault) : (s.markFault f).d = s.d := rfl
@[simp] theorem State.markFault_ks (s : State) (f : Fault) : (s.markFault f).ks = s.ks := rfl
@[simp] theorem State.markFault_l (s : State) (f : Fault) : (s.markFault f).l = s.l := rfl
@[simp] theorem State.markFault_r (s : State) (f : Fault) : (s.markFault f).r = s.r := rfl
@[simp] theorem State.markFault_ct (s : State) (f : Fault) : (s.markFault f).ct = s.ct := rfl
@[simp] theorem State.markFault_phase (s : State) (f : Fault) : (s.markFault f).phase = s.phase := rfl
@[simp] theorem State.markFault_fault (s : State) (f : Fault) : (s.markFault f).fault = some f := rfl
@[simp] theorem State.markFault_refused (s : State) (f : Fault) : (s.markFault f).refused = s.refused := rfl
@[simp] theorem State.markFault_coreTurn (s : State) (f : Fault) : (s.markFault f).coreTurn = s.coreTurn := rfl
@[simp] theorem State.markFault_script (s : State) (f : Fault) : (s.markFault f).script = s.script := rfl
@[simp] theorem State.markFault_draws (s : State) (f : Fault) : (s.markFault f).draws = s.draws := rfl

/-! `State.markRefused` -/

@[simp] theorem State.markRefused_keyIn (s : State) (why : RefusalReason) : (s.markRefused why).keyIn = s.keyIn := rfl
@[simp] theorem State.markRefused_ptIn (s : State) (why : RefusalReason) : (s.markRefused why).ptIn = s.ptIn := rfl
@[simp] theorem State.markRefused_start (s : State) (why : RefusalReason) : (s.markRefused why).start = s.start := rfl
@[simp] theorem State.markRefused_rst (s : State) (why : RefusalReason) : (s.markRefused why).rst = s.rst := rfl
@[simp] theorem State.markRefused_keyR (s : State) (why : RefusalReason) : (s.markRefused why).keyR = s.keyR := rfl
@[simp] theorem State.markRefused_ptR (s : State) (why : RefusalReason) : (s.markRefused why).ptR = s.ptR := rfl
@[simp] theorem State.markRefused_c (s : State) (why : RefusalReason) : (s.markRefused why).c = s.c := rfl
@[simp] theorem State.markRefused_d (s : State) (why : RefusalReason) : (s.markRefused why).d = s.d := rfl
@[simp] theorem State.markRefused_ks (s : State) (why : RefusalReason) : (s.markRefused why).ks = s.ks := rfl
@[simp] theorem State.markRefused_l (s : State) (why : RefusalReason) : (s.markRefused why).l = s.l := rfl
@[simp] theorem State.markRefused_r (s : State) (why : RefusalReason) : (s.markRefused why).r = s.r := rfl
@[simp] theorem State.markRefused_ct (s : State) (why : RefusalReason) : (s.markRefused why).ct = s.ct := rfl
@[simp] theorem State.markRefused_phase (s : State) (why : RefusalReason) : (s.markRefused why).phase = s.phase := rfl
@[simp] theorem State.markRefused_fault (s : State) (why : RefusalReason) : (s.markRefused why).fault = s.fault := rfl
@[simp] theorem State.markRefused_refused (s : State) (why : RefusalReason) : (s.markRefused why).refused = some why := rfl
@[simp] theorem State.markRefused_coreTurn (s : State) (why : RefusalReason) : (s.markRefused why).coreTurn = s.coreTurn := rfl
@[simp] theorem State.markRefused_script (s : State) (why : RefusalReason) : (s.markRefused why).script = s.script := rfl
@[simp] theorem State.markRefused_draws (s : State) (why : RefusalReason) : (s.markRefused why).draws = s.draws := rfl

/-! `State.drive` -/

@[simp] theorem State.drive_keyIn (s : State) (h : HostInput) : (s.drive h).keyIn = h.keyIn := rfl
@[simp] theorem State.drive_ptIn (s : State) (h : HostInput) : (s.drive h).ptIn = h.ptIn := rfl
@[simp] theorem State.drive_start (s : State) (h : HostInput) : (s.drive h).start = h.start := rfl
@[simp] theorem State.drive_rst (s : State) (h : HostInput) : (s.drive h).rst = h.rst := rfl
@[simp] theorem State.drive_keyR (s : State) (h : HostInput) : (s.drive h).keyR = s.keyR := rfl
@[simp] theorem State.drive_ptR (s : State) (h : HostInput) : (s.drive h).ptR = s.ptR := rfl
@[simp] theorem State.drive_c (s : State) (h : HostInput) : (s.drive h).c = s.c := rfl
@[simp] theorem State.drive_d (s : State) (h : HostInput) : (s.drive h).d = s.d := rfl
@[simp] theorem State.drive_ks (s : State) (h : HostInput) : (s.drive h).ks = s.ks := rfl
@[simp] theorem State.drive_l (s : State) (h : HostInput) : (s.drive h).l = s.l := rfl
@[simp] theorem State.drive_r (s : State) (h : HostInput) : (s.drive h).r = s.r := rfl
@[simp] theorem State.drive_ct (s : State) (h : HostInput) : (s.drive h).ct = s.ct := rfl
@[simp] theorem State.drive_phase (s : State) (h : HostInput) : (s.drive h).phase = s.phase := rfl
@[simp] theorem State.drive_fault (s : State) (h : HostInput) : (s.drive h).fault = s.fault := rfl
@[simp] theorem State.drive_refused (s : State) (h : HostInput) : (s.drive h).refused = s.refused := rfl
@[simp] theorem State.drive_coreTurn (s : State) (h : HostInput) : (s.drive h).coreTurn = h.coreTurn := rfl
@[simp] theorem State.drive_script (s : State) (h : HostInput) : (s.drive h).script = s.script := rfl
@[simp] theorem State.drive_draws (s : State) (h : HostInput) : (s.drive h).draws = s.draws := rfl

/-! `State.drawRegisters`: only what it leaves unchanged; its draws are free values. -/

@[simp] theorem State.drawRegisters_keyIn (s : State) : s.drawRegisters.keyIn = s.keyIn := rfl
@[simp] theorem State.drawRegisters_ptIn (s : State) : s.drawRegisters.ptIn = s.ptIn := rfl
@[simp] theorem State.drawRegisters_start (s : State) : s.drawRegisters.start = s.start := rfl
@[simp] theorem State.drawRegisters_rst (s : State) : s.drawRegisters.rst = s.rst := rfl
@[simp] theorem State.drawRegisters_phase (s : State) : s.drawRegisters.phase = s.phase := rfl
@[simp] theorem State.drawRegisters_fault (s : State) : s.drawRegisters.fault = s.fault := rfl
@[simp] theorem State.drawRegisters_refused (s : State) : s.drawRegisters.refused = s.refused := rfl
@[simp] theorem State.drawRegisters_coreTurn (s : State) : s.drawRegisters.coreTurn = s.coreTurn := rfl
@[simp] theorem State.drawRegisters_script (s : State) : s.drawRegisters.script = s.script := rfl

/-! `State.advanceHost`: only the ports and the script move. -/

@[simp] theorem State.advanceHost_keyR (s : State) : s.advanceHost.keyR = s.keyR := by
  unfold State.advanceHost; split <;> rfl
@[simp] theorem State.advanceHost_ptR (s : State) : s.advanceHost.ptR = s.ptR := by
  unfold State.advanceHost; split <;> rfl
@[simp] theorem State.advanceHost_c (s : State) : s.advanceHost.c = s.c := by
  unfold State.advanceHost; split <;> rfl
@[simp] theorem State.advanceHost_d (s : State) : s.advanceHost.d = s.d := by
  unfold State.advanceHost; split <;> rfl
@[simp] theorem State.advanceHost_ks (s : State) : s.advanceHost.ks = s.ks := by
  unfold State.advanceHost; split <;> rfl
@[simp] theorem State.advanceHost_l (s : State) : s.advanceHost.l = s.l := by
  unfold State.advanceHost; split <;> rfl
@[simp] theorem State.advanceHost_r (s : State) : s.advanceHost.r = s.r := by
  unfold State.advanceHost; split <;> rfl
@[simp] theorem State.advanceHost_ct (s : State) : s.advanceHost.ct = s.ct := by
  unfold State.advanceHost; split <;> rfl
@[simp] theorem State.advanceHost_phase (s : State) : s.advanceHost.phase = s.phase := by
  unfold State.advanceHost; split <;> rfl
@[simp] theorem State.advanceHost_fault (s : State) : s.advanceHost.fault = s.fault := by
  unfold State.advanceHost; split <;> rfl
@[simp] theorem State.advanceHost_refused (s : State) : s.advanceHost.refused = s.refused := by
  unfold State.advanceHost; split <;> rfl
@[simp] theorem State.advanceHost_draws (s : State) : s.advanceHost.draws = s.draws := by
  unfold State.advanceHost; split <;> rfl

theorem State.advanceHost_nil {s : State} (h : s.script = []) :
    s.advanceHost = s.drive (s.quietInput true) := by
  unfold State.advanceHost; rw [h]

theorem State.advanceHost_cons {s : State} {inp : HostInput} {rest : List HostInput} (h : s.script = inp :: rest) :
    s.advanceHost = { s.drive inp with script := rest } := by
  unfold State.advanceHost; rw [h]

/-- The host's inputs move on as the ports and the script alone say. -/
theorem State.advanceHost_congr {s t : State} (hs : s.script = t.script) (hk : s.keyIn = t.keyIn)
    (hp : s.ptIn = t.ptIn) :
    (s.advanceHost.keyIn, s.advanceHost.ptIn, s.advanceHost.start, s.advanceHost.rst, s.advanceHost.coreTurn,
      s.advanceHost.script) =
    (t.advanceHost.keyIn, t.advanceHost.ptIn, t.advanceHost.start, t.advanceHost.rst, t.advanceHost.coreTurn,
      t.advanceHost.script) := by
  unfold State.advanceHost
  rw [← hs]
  split <;> simp_all [State.drive, State.quietInput]

/-- The sixteen round keys at an index, after one entry is written. -/
theorem State.setKS_get (s : State) (idx : BitVec 4) (v : RoundKey48) (j : Fin 16) :
    (s.setKS idx v).ks.get j = if j.val = idx.toNat then v else s.ks.get j := by
  simp only [State.setKS, Vector.get_eq_getElem, Vector.getElem_set, eq_comm]

theorem State.setKS_readKS_self (s : State) (idx : BitVec 4) (v : RoundKey48) : (s.setKS idx v).readKS idx = v :=
  (s.setKS_get idx v idx.toFin).trans (if_pos rfl)

end Sys2Proof.Machine
end

