-- ==== Sys2Proof/Laws/Exec.lean ====
section
/-! SUPPORT. Everything an instruction can do, said once: if it answers a next state, one of these cases holds. -/

namespace Sys2Proof.Machine

theorem decodePhase_of_hold : ∀ w : PhaseWord, HoldWord w → decodePhase w = .idle ∨ decodePhase w = .done := by decide

theorem decodePhase_of_reserved : ∀ w : PhaseWord, ReservedWord w → decodePhase w = .reserved w := by decide

theorem decodePhase_of_busy : ∀ w : PhaseWord, ¬ HoldWord w → ¬ ReservedWord w →
    decodePhase w = .pc1 ∨ decodePhase w = .ip ∨ decodePhase w = .fp ∨ decodePhase w = .ksrot (phaseIdx w) ∨
      decodePhase w = .round (phaseIdx w) := by decide

/-- The state after KSROT n, n = idx + 1. -/
def State.afterRotation (s : State) (idx : BitVec 4) : State :=
  ((s.setCD (rotatedHalves idx s)).setKS idx
    (pc2 (join28 (rotatedHalves idx s).1 (rotatedHalves idx s).2))).goto (afterKsrot idx)

/-- The state after ROUND n, n = idx + 1. -/
def State.afterOneRound (s : State) (idx : BitVec 4) : State :=
  (s.setLR (feistelRound s.l s.r (s.readKS idx))).goto (afterRound idx)

/-- An instruction of a reserved row. -/
def IsReservedRow (i : Instr) : Prop :=
  i = .rsvd05 ∨ (∃ w, i = .rsvd06 w) ∨ (∃ w, i = .rsvd08 w) ∨ ∃ w, i = .rsvd30 w

/-- What an instruction does in a live run. -/
inductive LiveEffect (s : State) : Instr → State → Prop where
  | reset (b : Bool) : LiveEffect s (.reset b) (s.drawRegisters.goto .idle)
  | latch : HoldWord s.phase → LiveEffect s .start (s.latchOperands.goto .pc1)
  | startFault : ReservedWord s.phase → LiveEffect s .start (s.markFault .reservedPhase)
  | startRefused : ¬ HoldWord s.phase → ¬ ReservedWord s.phase → LiveEffect s .start (s.markRefused .startWhileBusy)
  | nop : LiveEffect s .nop s
  | idle : LiveEffect s .idle s
  | done : LiveEffect s .done s
  | pc1 : LiveEffect s .pc1 ((s.setCD (split (pc1 s.keyR))).goto (.ksrot 0))
  | ksrot (idx : BitVec 4) : LiveEffect s (.ksrot idx) (s.afterRotation idx)
  | ip : LiveEffect s .ip ((s.setLR (ipHalves s.ptR)).goto (.round 0))
  | round (idx : BitVec 4) : LiveEffect s (.round idx) (s.afterOneRound idx)
  | fp : LiveEffect s .fp ((s.setCT (fp (join32 s.r s.l))).goto .done)
  | reserved (i : Instr) : IsReservedRow i → LiveEffect s i (s.markFault .reservedPhase)

theorem execStart_next {s t : State} (h : execStart s = .next t) : s.Live ∧ LiveEffect s .start t := by
  obtain ⟨hl, hk⟩ := State.whenLive_next h
  refine ⟨hl, ?_⟩
  by_cases hw : HoldWord s.phase
  · rcases decodePhase_of_hold _ hw with e | e <;> rw [e] at hk <;> cases hk <;> exact .latch hw
  · by_cases hr : ReservedWord s.phase
    · rw [decodePhase_of_reserved _ hr] at hk
      cases hk
      exact .startFault hr
    · rcases decodePhase_of_busy _ hw hr with e | e | e | e | e <;> rw [e] at hk <;> cases hk <;>
        exact .startRefused hw hr

/-- If an instruction answers a next state, the run is live and the instruction has its effect. -/
theorem exec_next {i : Instr} {s t : State} (h : exec i s = .next t) :
    s.Live ∧ LiveEffect s i t := by
  cases i with
  | reset b =>
    obtain ⟨hl, hk⟩ := State.whenLive_next (k := fun s => .next (s.drawRegisters.goto .idle)) h
    cases hk
    exact ⟨hl, .reset b⟩
  | start => exact execStart_next h
  | nop => obtain ⟨hl, hk⟩ := State.whenLive_next h; cases hk; exact ⟨hl, .nop⟩
  | idle => obtain ⟨hl, hk⟩ := State.whenLive_next h; cases hk; exact ⟨hl, .idle⟩
  | pc1 =>
    obtain ⟨hl, hk⟩ := State.whenLive_next (k := fun s => .next ((s.setCD (split (pc1 s.keyR))).goto (.ksrot 0))) h
    cases hk
    exact ⟨hl, .pc1⟩
  | ip =>
    obtain ⟨hl, hk⟩ := State.whenLive_next (k := fun s => .next ((s.setLR (ipHalves s.ptR)).goto (.round 0))) h
    cases hk
    exact ⟨hl, .ip⟩
  | fp =>
    obtain ⟨hl, hk⟩ := State.whenLive_next (k := fun s => .next ((s.setCT (fp (join32 s.r s.l))).goto .done)) h
    cases hk
    exact ⟨hl, .fp⟩
  | done => obtain ⟨hl, hk⟩ := State.whenLive_next h; cases hk; exact ⟨hl, .done⟩
  | ksrot idx =>
    obtain ⟨hl, hk⟩ := State.whenLive_next (k := fun s => .next (s.afterRotation idx)) h
    cases hk
    exact ⟨hl, .ksrot idx⟩
  | round idx =>
    obtain ⟨hl, hk⟩ := State.whenLive_next (k := fun s => .next (s.afterOneRound idx)) h
    cases hk
    exact ⟨hl, .round idx⟩
  | rsvd05 =>
    obtain ⟨hl, hk⟩ := State.whenLive_next h
    cases hk
    exact ⟨hl, .reserved _ (.inl rfl)⟩
  | rsvd06 w =>
    obtain ⟨hl, hk⟩ := State.whenLive_next h
    cases hk
    exact ⟨hl, .reserved _ (.inr (.inl ⟨w, rfl⟩))⟩
  | rsvd08 w =>
    obtain ⟨hl, hk⟩ := State.whenLive_next h
    cases hk
    exact ⟨hl, .reserved _ (.inr (.inr (.inl ⟨w, rfl⟩)))⟩
  | rsvd30 w =>
    obtain ⟨hl, hk⟩ := State.whenLive_next h
    cases hk
    exact ⟨hl, .reserved _ (.inr (.inr (.inr ⟨w, rfl⟩)))⟩

end Sys2Proof.Machine
end

