-- ==== Sys2Proof/Laws/PerInstr.lean ====
section
/-! SUPPORT. Statements about every instruction as syntax, one lemma for each constructor. The family `Encoding`: an
instruction that the decoder gives is well formed, and encodes to the word it was decoded from. -/

namespace Sys2Proof.Laws.Encoding

/-- An instruction that some word decodes to is well formed, and its encoding is that word. -/
def Statement (i : Instr) : Prop := ∀ w : CodeWord, decodeWord w = i → i.WellFormed ∧ encode i = w

theorem all_cmd : ∀ w : CmdWord, (decodeWord (.cmd w)).WellFormed ∧ encode (decodeWord (.cmd w)) = .cmd w := by decide

theorem all_phase :
    ∀ w : PhaseWord, (decodeWord (.phase w)).WellFormed ∧ encode (decodeWord (.phase w)) = .phase w := by decide

/-- Every word's decoding is well formed and encodes back to it. -/
theorem of_word (i : Instr) : Statement i := by
  rintro w rfl
  cases w with
  | cmd v => exact all_cmd v
  | phase v => exact all_phase v

theorem reset (b : Bool) : Statement (.reset b) := of_word _
theorem start : Statement .start := of_word _
theorem nop : Statement .nop := of_word _
theorem idle : Statement .idle := of_word _
theorem pc1 : Statement .pc1 := of_word _
theorem ip : Statement .ip := of_word _
theorem fp : Statement .fp := of_word _
theorem done : Statement .done := of_word _
theorem rsvd05 : Statement .rsvd05 := of_word _
theorem rsvd06 (w : PhaseWord) : Statement (.rsvd06 w) := of_word _
theorem rsvd08 (w : PhaseWord) : Statement (.rsvd08 w) := of_word _
theorem ksrot (idx : BitVec 4) : Statement (.ksrot idx) := of_word _
theorem round (idx : BitVec 4) : Statement (.round idx) := of_word _
theorem rsvd30 (w : PhaseWord) : Statement (.rsvd30 w) := of_word _

end Sys2Proof.Laws.Encoding
end

