-- ==== Sys2Proof/Machine/HostSyntax.lean ====
section
/-! DEFINITION. The text of host scripts (spec/30_encoding.md R80): one statement a line, `;` starts a comment, 64-bit
numbers in hexadecimal after `0x`. The step count of STEP and the value of a one-bit field may be decimal, as the
programs of spec/95_test_vectors.md write them (log entry 20). -/

namespace Sys2Proof.Machine

/-- A token that has been read backwards, if it is not empty. -/
def flushToken (acc : List Char) : List (List Char) := if acc.isEmpty then [] else [acc.reverse]

/-- The tokens of a line: words, and `,` and `=` by themselves; a comment is dropped. -/
def tokensOf : List Char → List Char → List (List Char)
  | [], acc => flushToken acc
  | ch :: rest, acc =>
    if ch = ';' then flushToken acc
    else if ch = ' ' ∨ ch = '\t' ∨ ch = '\r' then flushToken acc ++ tokensOf rest []
    else if ch = ',' ∨ ch = '=' then flushToken acc ++ [ch] :: tokensOf rest []
    else tokensOf rest (ch :: acc)

/-- The value of a digit in base 16. -/
def digitValue (ch : Char) : Option Nat :=
  if '0'.toNat ≤ ch.toNat ∧ ch.toNat ≤ '9'.toNat then some (ch.toNat - '0'.toNat)
  else if 'a'.toNat ≤ ch.toNat ∧ ch.toNat ≤ 'f'.toNat then some (ch.toNat - 'a'.toNat + 10)
  else if 'A'.toNat ≤ ch.toNat ∧ ch.toNat ≤ 'F'.toNat then some (ch.toNat - 'A'.toNat + 10)
  else none

/-- A digit string in a base, most significant first. -/
def numberIn (base : Nat) : List Char → Nat → Option Nat
  | [], acc => some acc
  | ch :: rest, acc =>
    match digitValue ch with
    | some v => if v < base then numberIn base rest (acc * base + v) else none
    | none => none

/-- A 64-bit hexadecimal number with its `0x` prefix (R80). -/
def hexNumber : List Char → Option Nat
  | '0' :: 'x' :: d :: rest =>
    match numberIn 16 (d :: rest) 0 with
    | some v => if v < 2 ^ 64 then some v else none
    | none => none
  | _ => none

/-- A decimal number. -/
def decNumber : List Char → Option Nat
  | [] => none
  | d :: rest => numberIn 10 (d :: rest) 0

/-- A number in either form. -/
def anyNumber (t : List Char) : Option Nat := (hexNumber t).orElse fun _ => decNumber t

/-- The name of an observed field (R80). -/
def fieldOf (t : List Char) : Option ObsField :=
  if t = "ct_out".toList then some .ctOut
  else if t = "busy".toList then some .busy
  else if t = "done".toList then some .done
  else none

/-- A statement of one word. -/
def wordStmt (t : List Char) : Option Stmt :=
  if t = "RESET".toList then some .reset
  else if t = "NOP".toList then some .nop
  else if t = "STEP".toList then some (.steps 1)
  else if t = "READ".toList then some .read
  else if t = "WAIT_DONE".toList then some .waitDone
  else none

/-- A statement with a plaintext and a key. -/
def operandStmt (t : List Char) (pt key : Nat) : Option Stmt :=
  if t = "START".toList then some (.start (BitVec.ofNat 64 pt) (BitVec.ofNat 64 key))
  else if t = "ENCRYPT".toList then some (.encrypt (BitVec.ofNat 64 pt) (BitVec.ofNat 64 key))
  else none

/-- The statement of a line's tokens; an empty line holds none. The outer `none` is a line that R80 does not admit. -/
def stmtOf : List (List Char) → Option (Option Stmt)
  | [] => some none
  | [t] => (wordStmt t).map some
  | [t, n] =>
    if t = "STEP".toList then (anyNumber n).map fun k => some (.steps k) else none
  | [t, a, sep, b] =>
    if sep = [','] then
      (hexNumber a).bind fun pt => (hexNumber b).bind fun key => (operandStmt t pt key).map some
    else if sep = ['='] ∧ t = "EXPECT".toList then
      (fieldOf a).bind fun field => (anyNumber b).map fun value => some (.expect field value)
    else none
  | _ => none

/-- The lines of a text. -/
def linesOf : List Char → List Char → List (List Char)
  | [], acc => [acc.reverse]
  | ch :: rest, acc => if ch = '\n' then acc.reverse :: linesOf rest [] else linesOf rest (ch :: acc)

/-- The statements of the lines, in order. -/
def stmtsOf : List (List Char) → Option (List Stmt)
  | [] => some []
  | line :: rest =>
    (stmtOf (tokensOf line [])).bind fun st => (stmtsOf rest).map fun sts => st.toList ++ sts

/-- The script that a text writes down (R80). -/
def parseScript (text : List Char) : Option (List Stmt) := stmtsOf (linesOf text [])

end Sys2Proof.Machine
end

