-- ==== Sys2Proof/Tests/Slice0.lean ====
section
/-! SUPPORT. The model's own tests: expected values are those of spec/95_test_vectors.md (V numbers) and of the rules'
own examples. Then a witness for the hypotheses of each obligation. -/

namespace Sys2Proof.Tests

open Sys2Proof.Machine

/-! ## Helpers -/

/-- The next state of an outcome. -/
def nextOf : StepOutcome → Option State
  | .next s => some s
  | .fault _ => none
  | .refused _ => none

/-- The state after reset, with another phase. -/
def inPhase (w : PhaseWord) : State := { State.reset with phase := w }

/-- The known vector's plaintext, key and ciphertext (V1). -/
def pV1 : Block64 := 0x0123456789ABCDEF
def kV1 : Key64 := 0x133457799BBCDFF1
def cV1 : Block64 := 0x85E813540F0AB405

/-- The elements of a 64-bit value as integers. -/
def elements (x : Block64) : List Int := (List.range 64).map fun i => if elem x i then 1 else 0

/-! ## Well-formedness: one ill-formed term for each check, and the words at the ends of each range -/

theorem test_wellFormed_rsvd06 :
    (Instr.rsvd06 0x05).wellFormed = false ∧ (Instr.rsvd06 0x08).wellFormed = false ∧
    (Instr.rsvd06 0x06).wellFormed = true ∧ (Instr.rsvd06 0x07).wellFormed = true := by decide

theorem test_wellFormed_rsvd08 :
    (Instr.rsvd08 0x07).wellFormed = false ∧ (Instr.rsvd08 0x10).wellFormed = false ∧
    (Instr.rsvd08 0x08).wellFormed = true ∧ (Instr.rsvd08 0x0F).wellFormed = true := by decide

theorem test_wellFormed_rsvd30 :
    (Instr.rsvd30 0x2F).wellFormed = false ∧ (Instr.rsvd30 0x30).wellFormed = true ∧
    (Instr.rsvd30 0x3F).wellFormed = true := by decide

/-! ## Decoding: words written out from the tables of R72 and R74 -/

theorem test_decode_cmd :
    decodeTableWord 2 0b10 = some (.reset false) ∧ decodeTableWord 2 0b11 = some (.reset true) ∧
    decodeTableWord 2 0b01 = some .start ∧ decodeTableWord 2 0b00 = some .nop := by decide

theorem test_decode_control :
    decodeTableWord 6 0b000000 = some .idle ∧ decodeTableWord 6 0b000001 = some .pc1 ∧
    decodeTableWord 6 0b000010 = some .ip ∧ decodeTableWord 6 0b000011 = some .fp ∧
    decodeTableWord 6 0b000100 = some .done := by decide

theorem test_decode_ksrot :
    decodeTableWord 6 0b010000 = some (.ksrot 0) ∧ decodeTableWord 6 0b010110 = some (.ksrot 6) ∧
    decodeTableWord 6 0b011111 = some (.ksrot 15) := by decide

theorem test_decode_round :
    decodeTableWord 6 0b100000 = some (.round 0) ∧ decodeTableWord 6 0b101001 = some (.round 9) ∧
    decodeTableWord 6 0b101111 = some (.round 15) := by decide

theorem test_decode_reserved :
    decodeTableWord 6 0b000101 = some .rsvd05 ∧ decodeTableWord 6 0b000110 = some (.rsvd06 0x06) ∧
    decodeTableWord 6 0b000111 = some (.rsvd06 0x07) ∧ decodeTableWord 6 0b001000 = some (.rsvd08 0x08) ∧
    decodeTableWord 6 0b001111 = some (.rsvd08 0x0F) ∧ decodeTableWord 6 0b110000 = some (.rsvd30 0x30) ∧
    decodeTableWord 6 0b111111 = some (.rsvd30 0x3F) := by decide

/-- R78: no word is wider than its format. -/
theorem test_decode_too_wide : decodeTableWord 2 0b100 = none ∧ decodeTableWord 6 0b1000000 = none := by decide

/-- `withFetchWord` places the word where the next step reads it. -/
theorem test_withFetchWord :
    fetch (State.reset.withFetchWord 2 0b11) = .reset true ∧ fetch (State.reset.withFetchWord 2 0b01) = .start ∧
    fetch (State.reset.withFetchWord 2 0b00) = .nop ∧ fetch (State.reset.withFetchWord 6 0b011010) = .ksrot 10 ∧
    fetch (State.reset.withFetchWord 6 0b110001) = .rsvd30 0x31 := by decide

/-! ## Notation -/

/-- R19, R53: element 0 is the most significant bit, byte 0 the first. -/
theorem test_elements :
    elem (0x8000000000000000#64) 0 = true ∧ elem (0x0000000000000001#64) 63 = true ∧
    byteOf 0x0123456789ABCDEF 0 = 0x01 ∧ byteOf 0x0123456789ABCDEF 7 = 0xEF := by decide

/-- V54 -/
theorem test_bin4 : bin4 0 = 0b0000 ∧ bin4 5 = 0b0101 ∧ bin4 10 = 0b1010 ∧ bin4 15 = 0b1111 := by decide

/-- V33 -/
theorem test_rotl :
    rotl (0x8000000#28) 1 = 0x0000001 ∧ rotl (0x8000000#28) 2 = 0x0000002 ∧ rotl (0xC000000#28) 1 = 0x8000001 ∧
    rotl (0xC000000#28) 2 = 0x0000003 ∧ rotl (0x5555555#28) 1 = 0xAAAAAAA := by decide

/-! ## Key schedule -/

/-- V31 -/
theorem test_pc1 :
    pc1 kV1 = 0xF0CCAAF556678F ∧ pc1 0x8000000000000000 = 0x01000000000000 ∧
    pc1 0x0000000000000002 = 0x00000008000000 ∧ pc1 0x0101010101010101 = 0 := by decide +kernel

/-- V30, R103 -/
theorem test_split : split 0xF0CCAAF556678F = (0xF0CCAAF, 0x556678F) := by decide

/-- V35 -/
theorem test_pc2 :
    pc2 0x00804480242004 = 0 ∧ pc2 0xFF7FBB7FDBDFFB = 0xFFFFFFFFFFFF ∧ pc2 0x80000000000000 = 0x080000000000 ∧
    pc2 0x00000000000001 = 0x000000000100 := by decide +kernel

/-- V30 -/
theorem test_keySchedule :
    (keySchedule kV1).toList =
      [0x1B02EFFC7072, 0x79AED9DBC9E5, 0x55FC8A42CF99, 0x72ADD6DB351D, 0x7CEC07EB53A8, 0x63A53E507B2F,
       0xEC84B7F618BC, 0xF78A3AC13BFB, 0xE0DBEBEDE781, 0xB1F347BA464F, 0x215FD3DED386, 0x7571F59467E9,
       0x97C5D1FABA41, 0x5F43B7F2E73A, 0xBF918D3D3F0A, 0xCB3D8B0E17F5] := by decide +kernel

/-! ## Mangler -/

/-- V51 -/
theorem test_expand :
    expand 0x80000000 = 0x400000000001 ∧ expand 0x00000001 = 0x800000000002 ∧ expand 0x00000010 = 0x0000000000A0 ∧
    expand 0xF0AAF0AA = 0x7A15557A1555 := by decide +kernel

/-- V52, V53: one look-up in each box, with the row from the outer bits. -/
theorem test_sbox :
    sbox 0 0b011000 = 5 ∧ sbox 1 0b010001 = 12 ∧ sbox 2 0b011110 = 8 ∧ sbox 3 0b111010 = 2 ∧ sbox 4 0b100001 = 11 ∧
    sbox 5 0b100110 = 5 ∧ sbox 6 0b010100 = 9 ∧ sbox 7 0b100111 = 7 ∧ sbox 3 0b100000 = 10 ∧ sbox 3 0b000001 = 13 := by
  decide

/-- R150: each row of each box is a permutation of 0 to 15. -/
theorem test_sbox_rows :
    tableSbox.all fun box => box.length == 4 && box.all fun row => row.length == 16 && (List.range 16).all row.contains := by
  decide +kernel

/-- V55 -/
theorem test_sLayer :
    sLayer 0 = 0xEFA72C4D ∧ sLayer 0xFFFFFFFFFFFF = 0xD9CE3DCB ∧ sLayer 0x6117BA866527 = 0x5C82B597 := by
  decide +kernel

/-- V55 -/
theorem test_pPerm :
    pPerm 0x80000000 = 0x00800000 ∧ pPerm 0x00000001 = 0x00000800 ∧ pPerm 0xF0000000 = 0x00808202 ∧
    pPerm 0x5C82B597 = 0x234AA9BB := by decide +kernel

/-- V50, V56 -/
theorem test_mangler :
    mangler 0xF0AAF0AA 0x1B02EFFC7072 = 0x234AA9BB ∧ mangler 0 0 = 0xD8D8DBBC ∧
    mangler 0xFFFFFFFF 0 = 0x38DBF9CB := by decide +kernel

/-- V41: the new right half is zero when l is the mangler's value. -/
theorem test_feistelRound :
    feistelRound 0xCC00CCFF 0xF0AAF0AA 0x1B02EFFC7072 = (0xF0AAF0AA, 0xEF4A6544) ∧
    feistelRound 0x234AA9BB 0xF0AAF0AA 0x1B02EFFC7072 = (0xF0AAF0AA, 0x00000000) := by decide +kernel

/-! ## Driver -/

/-- V60 -/
theorem test_ip_fp :
    ip pV1 = 0xCC00CCFFF0AAF0AA ∧ ip 0x8000000000000000 = 0x0000000001000000 ∧
    fp pV1 = 0xFF330FAA00330FAA ∧ fp 0x0A4CD99543423234 = cV1 := by decide +kernel

/-- V1 -/
theorem test_desEncrypt : desEncrypt pV1 kV1 = cV1 := by decide +kernel

/-- V22, V23: from general knowledge, as the spec marks them. -/
theorem test_desEncrypt_known :
    desEncrypt 0x8787878787878787 0x0E329232EA6D0D73 = 0 ∧
    desEncrypt 0x4E6F772069732074 0x0123456789ABCDEF = 0x3FA40E8A984D4815 := by decide +kernel

/-- V64 -/
theorem test_encryptBlock :
    encryptBlock (elements pV1) (elements kV1) = .ok cV1 ∧
    encryptBlock (List.replicate 63 0) (List.replicate 64 0) = .error .inputLengthError ∧
    encryptBlock (2 :: List.replicate 64 0) (List.replicate 64 0) = .error .inputLengthError ∧
    encryptBlock (List.replicate 5 0 ++ 2 :: List.replicate 58 0) (List.replicate 64 0) = .refused .notABit := by
  decide +kernel

/-! ## One step of each instruction -/

/-- V72: RESET from ROUND 7, `start` ignored. -/
theorem test_reset :
    (nextOf (exec (.reset false) (inPhase 0x26))).map (fun t => (t.phase, t.busy, t.done)) =
      some (0x00, some false, some false) ∧
    (nextOf (exec (.reset true) (inPhase 0x26))).map (fun t => t.phase) = some 0x00 := by decide

/-- R216: a faulted state has no successor, RESET included. -/
theorem test_reset_faulted :
    exec (.reset false) { inPhase 0x31 with fault := some .reservedPhase } = .fault .reservedPhase := rfl

/-- R206, R211, P4: nothing runs in a refused run, RESET and a call of encrypt_block included. -/
theorem test_refused_run :
    exec (.reset false) { inPhase 0x14 with refused := some .startWhileBusy } = .refused (.runRefused .startWhileBusy) ∧
    callEncryptBlock [] [] { inPhase 0x14 with refused := some .startWhileBusy } =
      .refused (.runRefused .startWhileBusy) := ⟨rfl, rfl⟩

/-- V70 row 0, V72: START from IDLE, and from DONE with CT unchanged. -/
theorem test_start :
    (nextOf (exec .start { inPhase 0x04 with keyIn := kV1, ptIn := pV1, ct := 7 })).map
      (fun t => (t.keyR, t.ptR, t.phase, t.ct)) = some (kV1, pV1, 0x01, 7) := by decide

/-- V72: START in KSROT 5 is refused, in a reserved phase it faults. -/
theorem test_start_marks :
    (nextOf (exec .start (inPhase 0x14))).map (fun t => (t.phase, t.refused, t.fault)) =
      some (0x14, some .startWhileBusy, none) ∧
    (nextOf (exec .start (inPhase 0x31))).map (fun t => (t.phase, t.refused, t.fault)) =
      some (0x31, none, some .reservedPhase) := by decide

/-- V72: NOP in IDLE and DONE changes nothing. -/
theorem test_nop :
    nextOf (exec .nop (inPhase 0x00)) = some (inPhase 0x00) ∧
    nextOf (exec .nop (inPhase 0x04)) = some (inPhase 0x04) := by decide

/-- R187, R188 -/
theorem test_holds :
    nextOf (step (inPhase 0x00)) = some (inPhase 0x00) ∧ nextOf (step (inPhase 0x04)) = some (inPhase 0x04) := by
  decide

/-- V70 row 1 -/
theorem test_pc1_step :
    (nextOf (step { inPhase 0x01 with keyR := kV1 })).map (fun t => (t.c, t.d, t.phase, t.keyR)) =
      some (0xF0CCAAF, 0x556678F, 0x10, kV1) := by decide +kernel

/-- V70 row 2: KS[1] from the rotated halves. -/
theorem test_ksrot_1 :
    (nextOf (step { inPhase 0x10 with c := 0xF0CCAAF, d := 0x556678F })).map
      (fun t => (t.c, t.d, t.ks.toList, t.phase)) =
      some (0xE19955F, 0xAACCF1E, 0x1B02EFFC7072 :: List.replicate 15 0, 0x11) := by decide +kernel

/-- V70 row 17: KS[16], and the next phase is IP. -/
theorem test_ksrot_16 :
    (nextOf (step { inPhase 0x1F with c := 0xF866557, d := 0xAAB33C7 })).map
      (fun t => (t.c, t.d, t.ks.toList, t.phase)) =
      some (0xF0CCAAF, 0x556678F, List.replicate 15 0 ++ [0xCB3D8B0E17F5], 0x02) := by decide +kernel

/-- V70 row 18 -/
theorem test_ip_step :
    (nextOf (step { inPhase 0x02 with ptR := pV1 })).map (fun t => (t.l, t.r, t.phase)) =
      some (0xCC00CCFF, 0xF0AAF0AA, 0x20) := by decide +kernel

/-- V70 row 19: both halves come from the old ones. -/
theorem test_round_1 :
    (nextOf (step { inPhase 0x20 with l := 0xCC00CCFF, r := 0xF0AAF0AA, ks := State.reset.ks.set 0 0x1B02EFFC7072 })).map
      (fun t => (t.l, t.r, t.phase)) = some (0xF0AAF0AA, 0xEF4A6544, 0x21) := by decide +kernel

/-- V70 row 34: ROUND 16 reads KS[16], and the next phase is FP. -/
theorem test_round_16 :
    (nextOf (step { inPhase 0x2F with l := 0xC28C960D, r := 0x43423234, ks := State.reset.ks.set 15 0xCB3D8B0E17F5 })).map
      (fun t => (t.l, t.r, t.phase)) = some (0x43423234, 0x0A4CD995, 0x03) := by decide +kernel

/-- V70 row 35: the right half first. -/
theorem test_fp_step :
    (nextOf (step { inPhase 0x03 with l := 0x43423234, r := 0x0A4CD995 })).map
      (fun t => (t.ct, t.phase, t.busy, t.done, t.ctOut)) = some (cV1, 0x04, some false, some true, some cV1) := by
  decide +kernel

/-- R190: a core step in a reserved phase sets the mark and writes no register. -/
theorem test_reserved_step :
    nextOf (step (inPhase 0x07)) = some { inPhase 0x07 with fault := some .reservedPhase } ∧
    nextOf (step (inPhase 0x05)) = some { inPhase 0x05 with fault := some .reservedPhase } ∧
    nextOf (step (inPhase 0x0F)) = some { inPhase 0x0F with fault := some .reservedPhase } ∧
    nextOf (step (inPhase 0x3A)) = some { inPhase 0x3A with fault := some .reservedPhase } := by decide

/-- R219: with all three events, RESET wins over START, and START over the core's step. -/
theorem test_priority :
    fetch { inPhase 0x00 with rst := true, start := true } = .reset true ∧
    fetch { inPhase 0x00 with start := true } = .start ∧
    fetch { inPhase 0x05 with coreTurn := false } = .nop ∧ fetch (inPhase 0x05) = .rsvd05 := by decide

/-! ## Host scripts -/

/-- R80, with a comment and each form of statement. -/
theorem test_parseScript :
    parseScript "RESET ; CMD 10\nSTART 0x0123456789ABCDEF, 0x133457799BBCDFF1\nSTEP 35\nEXPECT done = 1\n".toList =
      some [.reset, .start pV1 kV1, .steps 35, .expect .done 1] := by decide +kernel

theorem test_parseScript_refuses :
    parseScript "START 0x1".toList = none ∧ parseScript "START 0x1, 0x10000000000000000".toList = none := by
  decide +kernel

/-! ## Witnesses: states and operands that meet the hypotheses of each obligation -/

theorem witness_EncodedInstructionDecodesBack :
    (Instr.rsvd06 0x06).WellFormed ∧ (Instr.rsvd06 0x07).WellFormed ∧ (Instr.rsvd08 0x08).WellFormed ∧
    (Instr.rsvd08 0x0F).WellFormed ∧ (Instr.rsvd30 0x30).WellFormed ∧ (Instr.rsvd30 0x3F).WellFormed ∧
    (Instr.reset true).WellFormed ∧ (Instr.round 15).WellFormed := by decide

/-- A host input with no command. -/
def quiet (coreTurn : Bool) : HostInput := { keyIn := 0, ptIn := 0, start := false, rst := false, coreTurn := coreTurn }

theorem witness_StepRunsTheSelectedInstruction :
    decodeWord (fetchWord (inPhase 0x01)) = .pc1 ∧
    ({ inPhase 0x26 with rst := true, start := true } : State).rst = true ∧
    (({ inPhase 0x00 with start := true } : State).rst = false ∧ ({ inPhase 0x00 with start := true } : State).start = true) ∧
    (({ inPhase 0x01 with coreTurn := false } : State).rst = false ∧
      ({ inPhase 0x01 with coreTurn := false } : State).start = false ∧
      ({ inPhase 0x01 with coreTurn := false } : State).coreTurn = false) ∧
    (inPhase 0x01).CoreMoves ∧
    ({ inPhase 0x01 with script := [quiet false] } : State).script = quiet false :: [] ∧
    (inPhase 0x01).script = [] := by decide

theorem witness_ResetCommandGoesToIdle : (inPhase 0x3F).Live ∧ (inPhase 0x2F).Live ∧ (inPhase 0x00).Live := by decide

/-- Two states that differ in phase, turn, `start` and a data register. -/
theorem witness_StepWithRstEndsInIdle :
    let s := { inPhase 0x19 with rst := true, start := true, keyR := kV1 }
    let s' := { inPhase 0x00 with rst := true, coreTurn := false }
    s.rst = true ∧ s'.rst = true ∧ s.Live ∧ s'.Live ∧ s.keyIn = s'.keyIn ∧ s.ptIn = s'.ptIn ∧ s.script = s'.script ∧
    s ≠ s' := by decide

theorem witness_StartCommandByPhase :
    (∀ w ∈ [0x00#6, 0x04#6], (inPhase w).Live ∧ HoldWord (inPhase w).phase) ∧
    (∀ w ∈ [0x05#6, 0x0F#6, 0x30#6, 0x3F#6], (inPhase w).Live ∧ ReservedWord (inPhase w).phase) ∧
    (∀ w ∈ [0x01#6, 0x02#6, 0x03#6, 0x10#6, 0x1F#6, 0x20#6, 0x2F#6],
      (inPhase w).Live ∧ ¬ HoldWord (inPhase w).phase ∧ ¬ ReservedWord (inPhase w).phase) := by decide

theorem witness_NopIdleAndDoneHoldEverything :
    (inPhase 0x2F).Live ∧
    (∀ w ∈ [0x00#6, 0x04#6], (inPhase w).Live ∧ HoldWord (inPhase w).phase) ∧
    ((inPhase 0x00).Live ∧ (inPhase 0x00).phase = 0x00#6) ∧ ((inPhase 0x04).Live ∧ (inPhase 0x04).phase = 0x04#6) := by
  decide

theorem witness_HoldPhasesWaitForACommand :
    ∀ w ∈ [0x00#6, 0x04#6], ∀ b,
      let s := { inPhase w with coreTurn := b }
      s.Live ∧ s.rst = false ∧ s.start = false ∧ HoldWord s.phase := by decide

theorem witness_Pc1LoadsTheKeyHalves : (inPhase 0x01).Live ∧ 0 < 28 ∧ 27 < 28 := by decide

theorem witness_KsrotRotatesAndWritesOneKey :
    (inPhase 0x10).Live ∧ (inPhase 0x1F).Live ∧ (14#4).toNat + 1 < 16 ∧ ¬ (15#4).toNat + 1 < 16 := by decide

theorem witness_IpLoadsTheBlockHalves : (inPhase 0x02).Live ∧ 0 < 32 ∧ 31 < 32 := by decide

theorem witness_RoundUsesTheOldHalves :
    (inPhase 0x20).Live ∧ (inPhase 0x2F).Live ∧ (14#4).toNat + 1 < 16 ∧ ¬ (15#4).toNat + 1 < 16 := by decide

theorem witness_FpWritesTheCiphertext : (inPhase 0x03).Live ∧ 0 < 64 ∧ 63 < 64 := by decide

theorem witness_ReservedPhasesSetTheFaultMark :
    (inPhase 0x00).Live ∧
    ∀ w ∈ [0x05#6, 0x06#6, 0x07#6, 0x08#6, 0x0F#6, 0x30#6, 0x3F#6], (inPhase w).Live ∧ ReservedWord (inPhase w).phase := by
  decide

theorem witness_NextPhaseTable :
    (∀ w ∈ [0x00#6, 0x01#6, 0x02#6, 0x03#6, 0x04#6, 0x1F#6, 0x2F#6], (inPhase w).Live) ∧
    (∀ w ∈ [0x10#6, 0x1E#6], (inPhase w).Live ∧ 0x10#6 ≤ (inPhase w).phase ∧ (inPhase w).phase < 0x1F#6) ∧
    (∀ w ∈ [0x20#6, 0x2E#6], (inPhase w).Live ∧ 0x20#6 ≤ (inPhase w).phase ∧ (inPhase w).phase < 0x2F#6) ∧
    (∀ w ∈ [0x05#6, 0x0F#6, 0x30#6, 0x3F#6], (inPhase w).Live ∧ ReservedWord (inPhase w).phase) ∧
    (∃ t, exec (.reset false) (inPhase 0x2F) = .next t) ∧
    (∀ w ∈ [0x00#6, 0x04#6], (inPhase w).Live ∧ HoldWord (inPhase w).phase) :=
  ⟨by decide, by decide, by decide, by decide, ⟨_, rfl⟩, by decide⟩

theorem witness_FaultedStateHasNoSuccessor :
    ({ inPhase 0x31 with fault := some .reservedPhase } : State).fault = some .reservedPhase := rfl

theorem witness_RefusedRunHasNoFurtherMeaning :
    (∀ w ∈ [0x01#6, 0x02#6, 0x03#6], (inPhase w).Live) ∧
    (∀ w ∈ [0x10#6, 0x1F#6, 0x20#6, 0x2F#6],
      (inPhase w).Live ∧ 0x10#6 ≤ (inPhase w).phase ∧ (inPhase w).phase ≤ 0x2F#6) ∧
    (∀ why ∈ [RefusalReason.startWhileBusy, RefusalReason.notABit],
      ({ inPhase 0x14 with refused := some why } : State).fault = none ∧
      ({ inPhase 0x14 with refused := some why } : State).refused = some why) := by decide

theorem witness_OnlyTheseInstructionsSetAMark :
    (∃ t, exec .start (inPhase 0x14) = .next t ∧ t.refused ≠ none) ∧
    (∃ t, exec .start (inPhase 0x3F) = .next t ∧ t.fault ≠ none) ∧
    (∃ t, exec .rsvd05 (inPhase 0x05) = .next t ∧ t.fault ≠ none) :=
  ⟨⟨_, rfl, by decide⟩, ⟨_, rfl, by decide⟩, ⟨_, rfl, by decide⟩⟩

theorem witness_AssignedPhasesLeadToAssignedPhases :
    ((inPhase 0x1F).fault = none ∧ ¬ ReservedWord (inPhase 0x1F).phase ∧ ∃ t, step (inPhase 0x1F) = .next t) ∧
    ((inPhase 0x2F).fault = none ∧ ¬ ReservedWord (inPhase 0x2F).phase ∧ ∃ t, step (inPhase 0x2F) = .next t) :=
  ⟨⟨rfl, by decide, _, rfl⟩, ⟨rfl, by decide, _, rfl⟩⟩

theorem witness_EachRegisterHasItsWriters :
    (∃ t, exec (.ksrot 15) (inPhase 0x1F) = .next t) ∧ (∀ b, Instr.ksrot 15 ≠ .reset b) ∧ Instr.ksrot 15 ≠ .start ∧
    (∀ idx : BitVec 4, Instr.ksrot 15 = .ksrot idx → idx.toNat ≠ (0 : Fin 16).val) ∧ Instr.ksrot 15 ≠ .ip ∧
    (∀ idx, Instr.ksrot 15 ≠ .round idx) ∧ Instr.ksrot 15 ≠ .fp ∧
    (∃ t, exec .fp (inPhase 0x03) = .next t) ∧ (∀ b, Instr.fp ≠ .reset b) ∧ Instr.fp ≠ .pc1 ∧
    (∀ idx, Instr.fp ≠ .ksrot idx) :=
  ⟨⟨_, rfl⟩, by decide, by decide, by decide, by decide, by decide, by decide, ⟨_, rfl⟩, by decide, by decide,
    by decide⟩

theorem witness_InstructionsLeaveThePortsAlone :
    (∃ t, exec (.reset true) (inPhase 0x2F) = .next t) ∧ ∃ t, exec .start (inPhase 0x04) = .next t :=
  ⟨⟨_, rfl⟩, ⟨_, rfl⟩⟩

theorem witness_OperandPortsMatterOnlyToStart :
    Instr.pc1 ≠ .start ∧ (∃ t, exec .pc1 (inPhase 0x01) = .next t) ∧
    (∃ f, exec .pc1 { inPhase 0x01 with fault := some .reservedPhase } = .fault f) ∧
    ∃ why, exec .pc1 { inPhase 0x01 with refused := some .startWhileBusy } = .refused why :=
  ⟨by decide, ⟨_, rfl⟩, ⟨_, rfl⟩, ⟨_, rfl⟩⟩

/-- In the FP phase with the core not moving, and in the last ROUND with the core moving. -/
theorem witness_CiphertextStaysUntilFp :
    (∃ t, step { inPhase 0x03 with coreTurn := false } = .next t) ∧
    (({ inPhase 0x03 with coreTurn := false } : State).rst = false ∧
      ¬ (({ inPhase 0x03 with coreTurn := false } : State).CoreMoves ∧
        ({ inPhase 0x03 with coreTurn := false } : State).phase = 0x03#6)) ∧
    (∃ t, step (inPhase 0x2F) = .next t) ∧
    ((inPhase 0x2F).rst = false ∧ ¬ ((inPhase 0x2F).CoreMoves ∧ (inPhase 0x2F).phase = 0x03#6)) :=
  ⟨⟨_, rfl⟩, by decide, ⟨_, rfl⟩, by decide⟩

theorem witness_OutputsFollowPhaseAndCt :
    (inPhase 0x04).Live ∧ ¬ ({ inPhase 0x05 with fault := some .reservedPhase } : State).Live ∧
    ¬ ({ inPhase 0x14 with refused := some .startWhileBusy } : State).Live := by decide

theorem witness_HiddenRegistersShowOnlyThroughFp :
    (inPhase 0x10).SameVisible { inPhase 0x10 with c := 1, d := 2, l := 3, r := 4, keyR := 5, ptR := 6 } ∧
    (inPhase 0x10).rst = false ∧ ¬ ((inPhase 0x10).CoreMoves ∧ (inPhase 0x10).phase = 0x03#6) ∧
    ∃ t, step (inPhase 0x10) = .next t :=
  ⟨⟨rfl, rfl, rfl, rfl, rfl, rfl, rfl, rfl, rfl, rfl, rfl⟩, rfl, by decide, _, rfl⟩

theorem witness_KeyHalvesRotateByTheSumOfShifts : 0 ≤ 16 ∧ 16 ≤ 16 := by decide

/-- V32: the same key with all parity elements flipped. -/
theorem witness_ParityElementsHaveNoEffect :
    ∀ i, i < 64 → i % 8 ≠ 7 → elem kV1 i = elem (0x123556789ABDDEF0 : Key64) i := by decide

theorem witness_ManglerElementByElement : 0 < 32 ∧ 31 < 32 := by decide

/-- V34: a key for each of the four choices of C0 and D0, all zeros or all ones. -/
theorem witness_WeakKeysEncryptTwiceToTheIdentity :
    ((cdAt 0x0101010101010101 0).1 = 0 ∧ (cdAt 0x0101010101010101 0).2 = 0) ∧
    ((cdAt 0x1F1F1F1F0E0E0E0E 0).1 = 0 ∧ (cdAt 0x1F1F1F1F0E0E0E0E 0).2 = BitVec.allOnes 28) ∧
    ((cdAt 0xE0E0E0E0F1F1F1F1 0).1 = BitVec.allOnes 28 ∧ (cdAt 0xE0E0E0E0F1F1F1F1 0).2 = 0) ∧
    ((cdAt 0xFEFEFEFEFEFEFEFE 0).1 = BitVec.allOnes 28 ∧ (cdAt 0xFEFEFEFEFEFEFEFE 0).2 = BitVec.allOnes 28) := by
  decide +kernel

theorem witness_EncryptBlockValidatesThenEncrypts :
    (List.replicate 63 (0 : Int)).length ≠ 64 ∧ (List.replicate 65 (0 : Int)).length ≠ 64 ∧
    (List.replicate 5 (0 : Int) ++ 2 :: List.replicate 58 0).length = 64 ∧
    (List.replicate 64 (0 : Int)).length = 64 ∧
    (∃ e : Int, (e ∈ List.replicate 5 (0 : Int) ++ 2 :: List.replicate 58 0 ∨ e ∈ List.replicate 64 (0 : Int)) ∧
      e ≠ 0 ∧ e ≠ 1) :=
  ⟨by decide, by decide, by decide, by decide, 2, by decide, by decide, by decide⟩

theorem witness_EncryptBlockCallChangesOnlyTheMark :
    State.reset.Live ∧ encryptBlock [] [] = .error .inputLengthError ∧ (∀ why, encryptBlock [] [] ≠ .refused why) ∧
    encryptBlock (List.replicate 63 0 ++ [2]) (List.replicate 64 0) = .refused .notABit := by
  refine ⟨by decide, rfl, ?_, by decide +kernel⟩
  rintro why h
  cases h

/-- A finished operation for key 0 and plaintext 0 (V20). -/
def doneState : State := { inPhase 0x04 with l := 0xBBEA0DC2, r := 0x1C2087FC, ct := 0x8CA64DE9C1B123A7 }

theorem witness_StageInvariantIsKept :
    ((inPhase 0x01).StageInv ∧ ∃ t, step (inPhase 0x01) = .next t) ∧
    ((inPhase 0x1F).StageInv ∧ ∃ t, step (inPhase 0x1F) = .next t) ∧
    (doneState.StageInv ∧ ∃ t, step doneState = .next t) := by
  refine ⟨⟨trivial, _, rfl⟩, ⟨?_, _, rfl⟩, ⟨?_, _, rfl⟩⟩
  · show (inPhase 0x1F).HoldsCD 15 ∧ (inPhase 0x1F).HoldsKeys 15
    decide +kernel
  · show doneState.HoldsCD 16 ∧ doneState.HoldsKeys 16 ∧ doneState.HoldsLR 16 ∧
      doneState.ct = fp (join32 doneState.r doneState.l)
    decide +kernel

theorem witness_StageInvariantHoldsAfterReset : ∃ t, exec (.reset false) (inPhase 0x2F) = .next t := ⟨_, rfl⟩

theorem witness_DoneShowsTheCiphertext : doneState.StageInv ∧ doneState.done = some true :=
  ⟨witness_StageInvariantIsKept.2.2.1, by decide⟩

/-- A START in DONE with 35 core turns after it and one NOP in between; and one with 34 turns. -/
theorem witness_StartThenThirtyFiveStepsEncrypt :
    let us := quiet true :: quiet false :: List.replicate 34 (quiet true)
    let s := { inPhase 0x04 with start := true, keyIn := kV1, ptIn := pV1, script := us ++ [] }
    s.Live ∧ HoldWord s.phase ∧ s.rst = false ∧ s.start = true ∧ s.script = us ++ [] ∧ (∀ h ∈ us, h.Quiet) ∧
    35 ≤ us.countP (fun h => h.coreTurn) ∧
    (∀ h ∈ List.replicate 34 (quiet true), h.Quiet) ∧
    (List.replicate 34 (quiet true)).countP (fun h => h.coreTurn) < 35 := by decide

theorem witness_EncryptScriptReadsTheCiphertext :
    ∀ w ∈ [0x00#6, 0x04#6], (inPhase w).Live ∧ HoldWord (inPhase w).phase := by decide

theorem witness_StartedOperationFinishes :
    ∀ w ∈ [0x01#6, 0x04#6, 0x2F#6],
      (inPhase w).Live ∧ (inPhase w).CoreMoves ∧ (inPhase w).script = [] ∧ (inPhase w).phase ≠ 0x00#6 ∧
      ¬ ReservedWord (inPhase w).phase := by decide

/-- Two states with one control and other operands, and a run of two steps. -/
theorem witness_ControlDoesNotDependOnData :
    (inPhase 0x01).SameControl { inPhase 0x01 with keyR := kV1, keyIn := 5, ct := 9 } ∧
    ∃ t, Machine.run 2 (inPhase 0x01) = .next t :=
  ⟨⟨rfl, rfl, rfl, rfl, rfl, rfl, rfl⟩, _, rfl⟩

theorem witness_ResetDrawsEveryDataRegister : ∃ t, exec (.reset true) (inPhase 0x2F) = .next t := ⟨_, rfl⟩

end Sys2Proof.Tests
end

section
/-! PROOFS. What `encrypt_block` answers (spec/43_driver.md R166): one equation for each of its three cases, and the
round trip from a block to its elements as integers and back. -/

namespace Sys2Proof.Machine

/-- The elements of a block as integers (R13), the inverse of `blockOfElements`. -/
def intElements (x : Block64) : List Int := (List.range 64).map fun i => if elem x i then 1 else 0

@[simp] theorem intElements_length (x : Block64) : (intElements x).length = 64 := by simp [intElements]

theorem isBit_iff (e : Int) : isBit e = true ↔ e = 0 ∨ e = 1 := by simp [isBit]

theorem intElements_all_isBit (x : Block64) : ∀ e ∈ intElements x, isBit e = true := by
  intro e he
  obtain ⟨i, -, rfl⟩ := List.mem_map.mp he
  rw [isBit_iff]
  split
  · exact .inr rfl
  · exact .inl rfl

theorem elem_blockOfElements {es : List Int} (h : es.length = 64) (j : Nat) :
    elem (blockOfElements es) j = (es.map fun e => e == 1).getD j false :=
  elem_ofBits (by simpa using h) j

theorem blockOfElements_intElements (x : Block64) : blockOfElements (intElements x) = x := by
  refine eq_of_elem fun i hi => ?_
  rw [elem_blockOfElements (intElements_length x)]
  cases hx : elem x i <;> simp [intElements, List.getD_eq_getElem?_getD, hi, hx]

theorem encryptBlock_of_length_ne {pt key : List Int} (h : pt.length ≠ 64 ∨ key.length ≠ 64) :
    encryptBlock pt key = .error .inputLengthError :=
  if_pos h

section
variable {pt key : List Int} (hpt : pt.length = 64) (hkey : key.length = 64)
include hpt hkey

theorem encryptBlock_of_not_isBit {e : Int} (hmem : e ∈ pt ∨ e ∈ key) (he : isBit e = false) :
    encryptBlock pt key = .refused .notABit := by
  have hall : (pt.all isBit && key.all isBit) = false := by
    rw [Bool.and_eq_false_iff, List.all_eq_false, List.all_eq_false]
    exact hmem.imp (fun h => ⟨e, h, by simp [he]⟩) (fun h => ⟨e, h, by simp [he]⟩)
  simp [encryptBlock, hpt, hkey, hall]

theorem encryptBlock_of_isBit (hp : ∀ e ∈ pt, isBit e = true) (hk : ∀ e ∈ key, isBit e = true) :
    encryptBlock pt key = .ok (desEncrypt (blockOfElements pt) (blockOfElements key)) := by
  have hall : (pt.all isBit && key.all isBit) = true := by
    rw [Bool.and_eq_true, List.all_eq_true, List.all_eq_true]
    exact ⟨hp, hk⟩
  simp [encryptBlock, hpt, hkey, hall]

end

theorem encryptBlock_intElements (p k : Block64) :
    encryptBlock (intElements p) (intElements k) = .ok (desEncrypt p k) := by
  rw [encryptBlock_of_isBit (intElements_length p) (intElements_length k) (intElements_all_isBit p)
    (intElements_all_isBit k), blockOfElements_intElements, blockOfElements_intElements]

/-- Settles O34: the three cases of `encryptBlock`, the last at the elements of two blocks. -/
theorem encryptBlockValidatesThenEncrypts : Obligations.EncryptBlockValidatesThenEncrypts := by
  refine ⟨fun pt key hlen => encryptBlock_of_length_ne hlen, ?notABit, encryptBlock_intElements⟩
  case notABit =>
    rintro pt key hpt hkey ⟨e, hmem, h0, h1⟩
    exact encryptBlock_of_not_isBit hpt hkey hmem (by simp [isBit, h0, h1])

end Sys2Proof.Machine
end

section
/-! PROOFS. What each instruction does in a live run: the converse of `exec_next`; and the outputs `busy` and `done` of a
live state. -/

namespace Sys2Proof.Machine

variable {s t : State} {i : Instr}

theorem execStart_of_hold (hl : s.Live) (hw : HoldWord s.phase) :
    execStart s = .next (s.latchOperands.goto .pc1) := by
  rw [execStart, State.whenLive_of_live hl]
  rcases decodePhase_of_hold _ hw with e | e <;> rw [e]

theorem execStart_of_reserved (hl : s.Live) (hr : ReservedWord s.phase) :
    execStart s = .next (s.markFault .reservedPhase) := by
  rw [execStart, State.whenLive_of_live hl, decodePhase_of_reserved _ hr]
  rfl

theorem execStart_of_busy (hl : s.Live) (hw : ¬ HoldWord s.phase) (hr : ¬ ReservedWord s.phase) :
    execStart s = .next (s.markRefused .startWhileBusy) := by
  rw [execStart, State.whenLive_of_live hl]
  rcases decodePhase_of_busy _ hw hr with e | e | e | e | e <;> rw [e] <;> rfl

theorem exec_of_isReservedRow (hl : s.Live) (hi : IsReservedRow i) :
    exec i s = .next (s.markFault .reservedPhase) := by
  rcases hi with rfl | ⟨w, rfl⟩ | ⟨w, rfl⟩ | ⟨w, rfl⟩ <;> exact State.whenLive_of_live hl _

/-- In a live run an instruction answers the state of its effect. -/
theorem exec_of_liveEffect (hl : s.Live) (he : LiveEffect s i t) : exec i s = .next t := by
  cases he with
  | reset b => rw [exec, execReset, State.whenLive_of_live hl]
  | latch hw => exact execStart_of_hold hl hw
  | startFault hr => exact execStart_of_reserved hl hr
  | startRefused hw hr => exact execStart_of_busy hl hw hr
  | nop => exact State.whenLive_of_live hl _
  | idle => exact State.whenLive_of_live hl _
  | done => exact State.whenLive_of_live hl _
  | pc1 => rw [exec, execPc1, State.whenLive_of_live hl]
  | ksrot idx => rw [exec, execKsrot, State.whenLive_of_live hl, State.afterRotation]
  | ip => rw [exec, execIp, State.whenLive_of_live hl]
  | round idx => rw [exec, execRound, State.whenLive_of_live hl, State.afterOneRound]
  | fp => rw [exec, execFp, State.whenLive_of_live hl]
  | reserved i hi => exact exec_of_isReservedRow hl hi

theorem State.unmarked_of_live (hl : s.Live) : s.unmarked = true := by simp [State.unmarked, hl.1, hl.2]

theorem State.busy_of_live {b : Bool} (hl : s.Live) (hb : busyOf s.phase = b) : s.busy = some b := by
  rw [State.busy, if_pos (State.unmarked_of_live hl), hb]

theorem State.done_of_live {b : Bool} (hl : s.Live) (hb : doneOf s.phase = b) : s.done = some b := by
  rw [State.done, if_pos (State.unmarked_of_live hl), hb]

end Sys2Proof.Machine
end

section
/-! PROOFS. The sequencer (spec/44_sequencer.md): START by phase (R181), the core's steps (R182–R186), the reserved rows
(R190) and the next-phase table (R192). -/

namespace Sys2Proof.Machine

variable {s t : State}

/-- The successor of each phase under the core's step (R192); the holds and the reserved phases keep theirs. -/
def successor : Phase → Phase
  | .idle => .idle
  | .pc1 => .ksrot 0
  | .ksrot idx => afterKsrot idx
  | .ip => .round 0
  | .round idx => afterRound idx
  | .fp => .done
  | .done => .done
  | .reserved w => .reserved w

theorem encodePhase_afterKsrot : ∀ idx : BitVec 4, encodePhase (afterKsrot idx) =
    if idx.toNat + 1 < 16 then BitVec.ofNat 6 (0x10 + (idx.toNat + 1)) else 0x02#6 := by decide

theorem encodePhase_afterRound : ∀ idx : BitVec 4, encodePhase (afterRound idx) =
    if idx.toNat + 1 < 16 then BitVec.ofNat 6 (0x20 + (idx.toNat + 1)) else 0x03#6 := by decide

/-- `successor` on phase words: the rows of the table of R192 but the faults. -/
theorem encodePhase_successor_decodePhase : ∀ w : PhaseWord,
    (w = 0x00#6 → encodePhase (successor (decodePhase w)) = 0x00#6) ∧
    (w = 0x01#6 → encodePhase (successor (decodePhase w)) = 0x10#6) ∧
    (0x10#6 ≤ w → w < 0x1F#6 → encodePhase (successor (decodePhase w)) = w + 1#6) ∧
    (w = 0x1F#6 → encodePhase (successor (decodePhase w)) = 0x02#6) ∧
    (w = 0x02#6 → encodePhase (successor (decodePhase w)) = 0x20#6) ∧
    (0x20#6 ≤ w → w < 0x2F#6 → encodePhase (successor (decodePhase w)) = w + 1#6) ∧
    (w = 0x2F#6 → encodePhase (successor (decodePhase w)) = 0x03#6) ∧
    (w = 0x03#6 → encodePhase (successor (decodePhase w)) = 0x04#6) ∧
    (w = 0x04#6 → encodePhase (successor (decodePhase w)) = 0x04#6) := by decide

theorem isReservedRow_reservedInstr (w : PhaseWord) : IsReservedRow (reservedInstr w) := by
  unfold reservedInstr
  split_ifs
  · exact .inl rfl
  · exact .inr (.inl ⟨w, rfl⟩)
  · exact .inr (.inr (.inl ⟨w, rfl⟩))
  · exact .inr (.inr (.inr ⟨w, rfl⟩))

theorem not_isReservedRow_reset (b : Bool) : ¬ IsReservedRow (.reset b) := by simp [IsReservedRow]

/-- In a live run the core's step of the phase that PHASE encodes completes in that phase's successor. -/
theorem coreStep_phase (hl : s.Live) (p : Phase) (hp : s.phase = encodePhase p) :
    ∃ t, exec p.instr s = .next t ∧ t.phase = encodePhase (successor p) := by
  cases p with
  | idle => exact ⟨_, exec_of_liveEffect hl .idle, hp⟩
  | pc1 => exact ⟨_, exec_of_liveEffect hl .pc1, rfl⟩
  | ip => exact ⟨_, exec_of_liveEffect hl .ip, rfl⟩
  | fp => exact ⟨_, exec_of_liveEffect hl .fp, rfl⟩
  | done => exact ⟨_, exec_of_liveEffect hl .done, hp⟩
  | ksrot idx => exact ⟨_, exec_of_liveEffect hl (.ksrot idx), rfl⟩
  | round idx => exact ⟨_, exec_of_liveEffect hl (.round idx), rfl⟩
  | reserved w => exact ⟨_, exec_of_isReservedRow hl (isReservedRow_reservedInstr w), hp⟩

theorem coreStep_of_reserved (hl : s.Live) (hr : ReservedWord s.phase) :
    exec (decodePhase s.phase).instr s = .next (s.markFault .reservedPhase) := by
  rw [decodePhase_of_reserved _ hr]
  exact exec_of_isReservedRow hl (isReservedRow_reservedInstr _)

theorem exec_reset_phase {b : Bool} (h : exec (.reset b) s = .next t) : t.phase = 0x00#6 := by
  obtain ⟨-, he⟩ := exec_next h
  cases he with
  | reset => rfl
  | reserved _ hi => exact absurd hi (not_isReservedRow_reset b)

/-- Settles O7: the three effects of START. -/
theorem startCommandByPhase : Obligations.StartCommandByPhase := by
  refine ⟨fun s hl hw => ⟨exec_of_liveEffect hl (.latch hw), ?busy, ?done⟩,
    fun s hl hr => exec_of_liveEffect hl (.startFault hr),
    fun s hl hw hr => exec_of_liveEffect hl (.startRefused hw hr)⟩
  case busy => exact State.busy_of_live hl (by decide : busyOf 0x01#6 = true)
  case done => exact State.done_of_live hl (by decide : doneOf 0x01#6 = false)

/-- Settles O10: C and D are the halves of PC-1's selection. -/
theorem pc1LoadsTheKeyHalves : Obligations.Pc1LoadsTheKeyHalves := by
  refine fun s hl => ⟨exec_of_liveEffect hl .pc1, fun i hi => ⟨?c, ?d⟩⟩
  case c => rw [elem_split_c _ hi, elem_pc1 _ (by omega)]
  case d => rw [elem_split_d _ hi, elem_pc1 _ (by omega)]

/-- Settles O11: the effect of KSROT n, with its successor's word. -/
theorem ksrotRotatesAndWritesOneKey : Obligations.KsrotRotatesAndWritesOneKey := by
  intro idx s hl
  rw [← encodePhase_afterKsrot]
  exact exec_of_liveEffect hl (.ksrot idx)

/-- Settles O12: L and R are the halves of IP's selection. -/
theorem ipLoadsTheBlockHalves : Obligations.IpLoadsTheBlockHalves := by
  refine fun s hl => ⟨exec_of_liveEffect hl .ip, fun i hi => ⟨?l, ?r⟩⟩
  case l => rw [elem_slice (by omega) hi, Nat.zero_add, elem_ip _ (by omega)]
  case r => rw [elem_slice (by omega) hi, elem_ip _ (by omega)]

/-- Settles O13: the effect of ROUND n, with its successor's word. -/
theorem roundUsesTheOldHalves : Obligations.RoundUsesTheOldHalves := by
  intro idx s hl
  rw [← encodePhase_afterRound]
  exact exec_of_liveEffect hl (.round idx)

/-- Settles O14: CT is FP's selection of R ++ L. -/
theorem fpWritesTheCiphertext : Obligations.FpWritesTheCiphertext := by
  refine fun s hl => ⟨exec_of_liveEffect hl .fp, ?done, ?busy, fun i hi => elem_fp _ hi⟩
  case done => exact State.done_of_live hl (by decide : doneOf 0x04#6 = true)
  case busy => exact State.busy_of_live hl (by decide : busyOf 0x04#6 = false)

/-- Settles O15: every reserved row marks the fault, and a reserved phase word decodes to one of them. -/
theorem reservedPhasesSetTheFaultMark : Obligations.ReservedPhasesSetTheFaultMark := by
  refine ⟨fun s hl => ⟨?rsvd05, fun w => ?rsvd06, fun w => ?rsvd08, fun w => ?rsvd30⟩,
    fun s hl hr => coreStep_of_reserved hl hr⟩
  case rsvd05 => exact exec_of_isReservedRow hl (.inl rfl)
  case rsvd06 => exact exec_of_isReservedRow hl (.inr (.inl ⟨w, rfl⟩))
  case rsvd08 => exact exec_of_isReservedRow hl (.inr (.inr (.inl ⟨w, rfl⟩)))
  case rsvd30 => exact exec_of_isReservedRow hl (.inr (.inr (.inr ⟨w, rfl⟩)))

/-- Settles O16: the core's step completes in the successor phase, whose words are the table's. -/
theorem nextPhaseTable : Obligations.NextPhaseTable := by
  refine ⟨fun s hl => ?coreStep, fun s t b h => exec_reset_phase h,
    fun s hl hw => ⟨_, exec_of_liveEffect hl (.latch hw), rfl⟩⟩
  case coreStep =>
    obtain ⟨t, ht, hphase⟩ := coreStep_phase hl _ (encodePhase_decodePhase s.phase).symm
    obtain ⟨hidle, hpc1, hksrot, hksrot16, hip, hround, hround16, hfp, hdone⟩ :=
      encodePhase_successor_decodePhase s.phase
    rw [← hphase] at hidle hpc1 hksrot hksrot16 hip hround hround16 hfp hdone
    refine ⟨t, ht, hidle, hpc1, hksrot, hksrot16, hip, hround, hround16, hfp, hdone, fun hr => ?_⟩
    rw [coreStep_of_reserved hl hr] at ht
    cases ht
    exact ⟨rfl, rfl⟩

end Sys2Proof.Machine
end

section
/-! PROOFS. Every instruction needs a live run (spec/60_exceptions.md R206, R216): so from a faulted state no host command
and no core step is defined. -/

namespace Sys2Proof.Machine

/-- An instruction's meaning is one body that goes on only in a live run, RESET included. -/
theorem exec_eq_whenLive (i : Instr) : ∃ k : State → StepOutcome, ∀ s : State, exec i s = s.whenLive k := by
  cases i <;> exact ⟨_, fun _ => rfl⟩

section
variable {s : State} {f : Fault} (hf : s.fault = some f)
include hf

theorem exec_of_fault (i : Instr) : exec i s = .fault f := by
  obtain ⟨k, hk⟩ := exec_eq_whenLive i
  rw [hk, State.whenLive_of_fault hf]

theorem step_of_fault : step s = .fault f := by
  rw [step, exec_of_fault hf, afterExec_fault]

end

/-- Settles O17: taking a fault only marks the state, and no instruction gets past the mark. -/
theorem faultedStateHasNoSuccessor : Obligations.FaultedStateHasNoSuccessor := by
  refine ⟨fun f s => ?mark, fun s f hf => ⟨exec_of_fault hf, step_of_fault hf⟩⟩
  case mark => rw [takeFault, State.markFault]

end Sys2Proof.Machine
end

section
/-! PROOFS. The encodings (spec/30_encoding.md R72, R74, R75): the decoders undo the encoders on every assigned phase and
on every reserved row. -/

namespace Sys2Proof

theorem decodePhase_encodePhase {p : Phase} (hp : ∀ w, p ≠ .reserved w) : decodePhase (encodePhase p) = p := by
  cases p with
  | idle => exact decodePhase_idle
  | pc1 => exact decodePhase_pc1
  | ip => exact decodePhase_ip
  | fp => exact decodePhase_fp
  | done => exact decodePhase_done
  | ksrot idx => exact decodePhase_ksrot idx
  | round idx => exact decodePhase_round idx
  | reserved w => exact absurd rfl (hp w)

/-- The instruction of a reserved phase word is its row of the table. -/
theorem decodeWord_phase_reserved {w : PhaseWord} (h : Machine.ReservedWord w) :
    decodeWord (.phase w) = reservedInstr w := by
  rw [decodeWord, Machine.decodePhase_of_reserved w h, Phase.instr]

theorem reservedInstr_of_inRsvd06 : ∀ w, inRsvd06 w → Machine.ReservedWord w ∧ reservedInstr w = .rsvd06 w := by
  decide

theorem reservedInstr_of_inRsvd08 : ∀ w, inRsvd08 w → Machine.ReservedWord w ∧ reservedInstr w = .rsvd08 w := by
  decide

theorem reservedInstr_of_inRsvd30 : ∀ w, inRsvd30 w → Machine.ReservedWord w ∧ reservedInstr w = .rsvd30 w := by
  decide

theorem decodeWord_encodeCmd (c : Cmd) : decodeWord (.cmd (encodeCmd c)) = c.instr := by
  rw [decodeWord, decodeCmd_encodeCmd]

theorem decodeWord_encodePhase {p : Phase} (hp : ∀ w, p ≠ .reserved w) :
    decodeWord (.phase (encodePhase p)) = p.instr := by
  rw [decodeWord, decodePhase_encodePhase hp]

/-- Settles O1: a command row by the decoder of CMD, a phase row by the decoder of PHASE, and a reserved row that keeps
its word by the range that well-formedness gives. -/
theorem encodedInstructionDecodesBack : Obligations.EncodedInstructionDecodesBack := by
  intro i hwf
  cases i with
  | reset b => exact decodeWord_encodeCmd (.reset b)
  | start => exact decodeWord_encodeCmd .start
  | nop => exact decodeWord_encodeCmd .nop
  | idle => exact decodeWord_encodePhase (p := .idle) nofun
  | pc1 => exact decodeWord_encodePhase (p := .pc1) nofun
  | ip => exact decodeWord_encodePhase (p := .ip) nofun
  | fp => exact decodeWord_encodePhase (p := .fp) nofun
  | done => exact decodeWord_encodePhase (p := .done) nofun
  | ksrot idx => exact decodeWord_encodePhase (p := .ksrot idx) nofun
  | round idx => exact decodeWord_encodePhase (p := .round idx) nofun
  | rsvd05 => exact decodeWord_phase_reserved (by decide)
  | rsvd06 w =>
    obtain ⟨hr, hi⟩ := reservedInstr_of_inRsvd06 w (of_decide_eq_true hwf)
    exact (decodeWord_phase_reserved hr).trans hi
  | rsvd08 w =>
    obtain ⟨hr, hi⟩ := reservedInstr_of_inRsvd08 w (of_decide_eq_true hwf)
    exact (decodeWord_phase_reserved hr).trans hi
  | rsvd30 w =>
    obtain ⟨hr, hi⟩ := reservedInstr_of_inRsvd30 w (of_decide_eq_true hwf)
    exact (decodeWord_phase_reserved hr).trans hi

/-- Settles O2, by decoding each of the written words. -/
theorem tableWordsDecodeToTheirRows : Obligations.TableWordsDecodeToTheirRows := by
  unfold Obligations.TableWordsDecodeToTheirRows
  decide

/-- Settles O3, by decoding each of the 64 words. -/
theorem everyPhaseWordHasItsRow : Obligations.EveryPhaseWordHasItsRow := by
  refine ⟨?rows, ?count⟩
  case rows => decide
  case count => decide

end Sys2Proof
end

section
/-! PROOFS. Which instruction a step runs (spec/60_exceptions.md R219), and everything a step can do, said once: the
state after the transition, before the host's inputs move on. -/

namespace Sys2Proof.Machine

variable {s t u : State}

theorem decodeCmd_cmdWord (s : State) :
    decodeCmd s.cmdWord = if s.rst then .reset s.start else if s.start then .start else .nop := by
  unfold State.cmdWord
  cases s.rst <;> cases s.start <;> rfl

theorem fetch_of_rst (hr : s.rst = true) : fetch s = .reset s.start := by
  have hc : decodeCmd s.cmdWord = .reset s.start := by rw [decodeCmd_cmdWord, if_pos hr]
  rw [fetch, fetchWord, hc, decodeWord, hc, Cmd.instr]

theorem fetch_of_start (hr : s.rst = false) (hs : s.start = true) : fetch s = .start := by
  have hc : decodeCmd s.cmdWord = .start := by simp [decodeCmd_cmdWord, hr, hs]
  rw [fetch, fetchWord, hc, decodeWord, hc, Cmd.instr]

theorem fetch_of_noTurn (hr : s.rst = false) (hs : s.start = false) (ht : s.coreTurn = false) : fetch s = .nop := by
  have hc : decodeCmd s.cmdWord = .nop := by simp [decodeCmd_cmdWord, hr, hs]
  simp [fetch, fetchWord, hc, ht, decodeWord, Cmd.instr]

theorem fetch_of_coreMoves (h : s.CoreMoves) : fetch s = (decodePhase s.phase).instr := by
  obtain ⟨hr, hs, ht⟩ := h
  have hc : decodeCmd s.cmdWord = .nop := by simp [decodeCmd_cmdWord, hr, hs]
  simp [fetch, fetchWord, hc, ht, decodeWord]

/-- Settles O4: the four selections of `fetch`, and the two moves of the host's inputs. -/
theorem stepRunsTheSelectedInstruction : Obligations.StepRunsTheSelectedInstruction := by
  refine ⟨?step, fun s hr => fetch_of_rst hr, fun s hr hs => fetch_of_start hr hs,
    fun s hr hs ht => fetch_of_noTurn hr hs ht, fun s h => fetch_of_coreMoves h, ?cons, ?nil⟩
  case step =>
    rintro s i rfl
    exact ⟨(Laws.Encoding.of_word _ _ rfl).1, rfl⟩
  case cons =>
    intro u h rest hu
    rw [afterExec_next, State.advanceHost_cons hu, State.drive]
  case nil =>
    intro u hu
    rw [afterExec_next, State.advanceHost_nil hu, State.drive, State.quietInput]

/-- The state after the core's step of a phase in a live run (R182–R190). -/
def State.coreStep (s : State) : Phase → State
  | .idle => s
  | .pc1 => (s.setCD (split (pc1 s.keyR))).goto (.ksrot 0)
  | .ksrot idx => s.afterRotation idx
  | .ip => (s.setLR (ipHalves s.ptR)).goto (.round 0)
  | .round idx => s.afterOneRound idx
  | .fp => (s.setCT (fp (join32 s.r s.l))).goto .done
  | .done => s
  | .reserved _ => s.markFault .reservedPhase

theorem liveEffect_coreStep (s : State) (p : Phase) : LiveEffect s p.instr (s.coreStep p) := by
  cases p with
  | idle => exact .idle
  | pc1 => exact .pc1
  | ip => exact .ip
  | fp => exact .fp
  | done => exact .done
  | ksrot idx => exact .ksrot idx
  | round idx => exact .round idx
  | reserved w => exact .reserved _ (isReservedRow_reservedInstr w)

theorem exec_coreStep (hl : s.Live) (p : Phase) : exec p.instr s = .next (s.coreStep p) :=
  exec_of_liveEffect hl (liveEffect_coreStep s p)

/-- What a transition of a live run makes of the state, by the ports, the turn and PHASE. -/
inductive Transition (s : State) : State → Prop where
  | reset : s.rst = true → Transition s (s.drawRegisters.goto .idle)
  | latch : s.rst = false → s.start = true → HoldWord s.phase → Transition s (s.latchOperands.goto .pc1)
  | startFault : s.rst = false → s.start = true → ReservedWord s.phase → Transition s (s.markFault .reservedPhase)
  | startRefused : s.rst = false → s.start = true → ¬ HoldWord s.phase → ¬ ReservedWord s.phase →
      Transition s (s.markRefused .startWhileBusy)
  | noTurn : s.rst = false → s.start = false → s.coreTurn = false → Transition s s
  | core : s.CoreMoves → Transition s (s.coreStep (decodePhase s.phase))

theorem exists_transition (s : State) : ∃ u, Transition s u := by
  cases hr : s.rst with
  | true => exact ⟨_, .reset hr⟩
  | false =>
    cases hs : s.start with
    | true =>
      by_cases hw : HoldWord s.phase
      · exact ⟨_, .latch hr hs hw⟩
      · by_cases hv : ReservedWord s.phase
        · exact ⟨_, .startFault hr hs hv⟩
        · exact ⟨_, .startRefused hr hs hw hv⟩
    | false =>
      cases ht : s.coreTurn with
      | true => exact ⟨_, .core ⟨hr, hs, ht⟩⟩
      | false => exact ⟨_, .noTurn hr hs ht⟩

theorem exec_of_transition (hl : s.Live) (h : Transition s u) : exec (fetch s) s = .next u := by
  cases h with
  | reset hr => rw [fetch_of_rst hr]; exact exec_of_liveEffect hl (.reset _)
  | latch hr hs hw => rw [fetch_of_start hr hs]; exact execStart_of_hold hl hw
  | startFault hr hs hv => rw [fetch_of_start hr hs]; exact execStart_of_reserved hl hv
  | startRefused hr hs hw hv => rw [fetch_of_start hr hs]; exact execStart_of_busy hl hw hv
  | noTurn hr hs ht => rw [fetch_of_noTurn hr hs ht]; exact exec_of_liveEffect hl .nop
  | core hm => rw [fetch_of_coreMoves hm]; exact exec_coreStep hl _

theorem step_of_transition (hl : s.Live) (h : Transition s u) : step s = .next u.advanceHost := by
  rw [step, exec_of_transition hl h, afterExec_next]

/-- If a step answers a next state, the run is live and the state is that of a transition, with the host's inputs moved
on. -/
theorem step_cases (h : step s = .next t) : s.Live ∧ ∃ u, Transition s u ∧ t = u.advanceHost := by
  obtain ⟨v, hv, -⟩ := step_next h
  obtain ⟨hl, -⟩ := exec_next hv
  obtain ⟨u, hu⟩ := exists_transition s
  rw [step_of_transition hl hu] at h
  cases h
  exact ⟨hl, u, hu, rfl⟩

end Sys2Proof.Machine
end

section
/-! PROOFS. The marks and the outputs (spec/10_state.md R33–R35, R41, R42; spec/60_exceptions.md R206, R208): when
transitions and calls have a meaning, who sets a mark, and what the host then reads. -/

namespace Sys2Proof.Machine

variable {s t u : State}

/-! ## Outputs -/

theorem State.unmarked_of_not_live (h : ¬ s.Live) : s.unmarked = false := by
  simpa [State.unmarked, ← Option.ne_none_iff_isSome] using h

theorem busyOf_eq_false_iff : ∀ w : PhaseWord, busyOf w = false ↔ HoldWord w := by decide

theorem doneOf_eq_true_iff : ∀ w : PhaseWord, doneOf w = true ↔ w = 0x04#6 := by decide

theorem State.busy_eq_of_live (hl : s.Live) : s.busy = some (busyOf s.phase) := State.busy_of_live hl rfl

theorem State.done_eq_of_live (hl : s.Live) : s.done = some (doneOf s.phase) := State.done_of_live hl rfl

theorem State.ctOut_of_live (hl : s.Live) : s.ctOut = some s.ct := if_pos (State.unmarked_of_live hl)

/-- The outputs depend on the marks, PHASE and CT alone. -/
theorem State.outputs_congr (hf : s.fault = t.fault) (hr : s.refused = t.refused) (hp : s.phase = t.phase)
    (hc : s.ct = t.ct) : s.outputs = t.outputs := by
  have hu : s.unmarked = t.unmarked := by rw [State.unmarked, State.unmarked, hf, hr]
  simp [State.outputs, State.ctOut, State.busy, State.done, hu, hp, hc]

/-- Settles O25: the outputs of a live state by its phase word, and none with a mark. -/
theorem outputsFollowPhaseAndCt : Obligations.OutputsFollowPhaseAndCt := by
  refine ⟨fun s hl => ?live, fun s hl => ?marked⟩
  case live =>
    have hb := busyOf_eq_false_iff s.phase
    have hd := doneOf_eq_true_iff s.phase
    rw [State.busy_eq_of_live hl, State.done_eq_of_live hl, Option.some_inj, Option.some_inj, Option.some_inj,
      Option.some_inj, ← Bool.not_eq_false, hb, ← Bool.not_eq_true, hd]
    exact ⟨Iff.rfl, Iff.rfl, Iff.rfl, Iff.rfl, State.ctOut_of_live hl⟩
  case marked =>
    have hm := State.unmarked_of_not_live hl
    simp [State.busy, State.done, State.ctOut, hm]

/-- Settles O26, by evaluating the reset state. -/
theorem resetStateValues : Obligations.ResetStateValues := by
  refine ⟨rfl, ?busy, ?done, rfl, rfl⟩
  case busy => exact State.busy_of_live ⟨rfl, rfl⟩ (by decide)
  case done => exact State.done_of_live ⟨rfl, rfl⟩ (by decide)

/-! ## Host commands and holds -/

/-- Settles O5: the effect of RESET in a live run, and a power-on state is live. -/
theorem resetCommandGoesToIdle : Obligations.ResetCommandGoesToIdle := by
  refine ⟨fun s b hl => ?live, fun s b => ?powerOn⟩
  case live =>
    refine ⟨_, exec_of_liveEffect hl (.reset b), rfl, rfl, rfl, rfl, rfl, rfl, rfl, rfl, rfl, fun _ => rfl, ?busy, ?done⟩
    case busy => exact State.busy_of_live hl (by decide : busyOf 0x00#6 = false)
    case done => exact State.done_of_live hl (by decide : doneOf 0x00#6 = false)
  case powerOn =>
    have hl : s.powerOn.Live := ⟨rfl, rfl⟩
    exact ⟨_, exec_of_liveEffect hl (.reset b), rfl, hl⟩

/-- Settles O43: the effect of RESET, field by field. -/
theorem resetDrawsEveryDataRegister : Obligations.ResetDrawsEveryDataRegister := by
  intro s t b h
  obtain ⟨hl, -⟩ := exec_next h
  rw [exec_of_liveEffect hl (.reset b)] at h
  cases h
  refine ⟨rfl, rfl, rfl, rfl, rfl, rfl, rfl, fun j => ?_, rfl⟩
  simp [State.drawRegisters, Vector.get_eq_getElem]

theorem coreStep_of_hold (h : HoldWord s.phase) : s.coreStep (decodePhase s.phase) = s := by
  rcases decodePhase_of_hold _ h with e | e <;> rw [e, State.coreStep]

/-- Settles O8: the three holds, the hold that the phase selects, and the outputs in IDLE and in DONE. -/
theorem nopIdleAndDoneHoldEverything : Obligations.NopIdleAndDoneHoldEverything := by
  refine ⟨fun s hl => ⟨exec_of_liveEffect hl .nop, exec_of_liveEffect hl .idle, exec_of_liveEffect hl .done⟩,
    fun s hl hw => ?selected, fun s hl hp => ?idle, fun s hl hp => ?done⟩
  case selected => rw [exec_coreStep hl, coreStep_of_hold hw]
  case idle => exact ⟨State.busy_of_live hl (by rw [hp]; decide), State.done_of_live hl (by rw [hp]; decide)⟩
  case done => exact ⟨State.busy_of_live hl (by rw [hp]; decide), State.done_of_live hl (by rw [hp]; decide)⟩

/-- Settles O9: without a command the transition is the hold's step, or none of the core. -/
theorem holdPhasesWaitForACommand : Obligations.HoldPhasesWaitForACommand := by
  intro s hl hr hs hw
  cases ht : s.coreTurn with
  | true => rw [step_of_transition hl (.core ⟨hr, hs, ht⟩), coreStep_of_hold hw]
  | false => exact step_of_transition hl (.noTurn hr hs ht)

/-! ## Who sets a mark, and what a mark stops -/

section
variable {why : RefusalReason} (hf : s.fault = none) (hr : s.refused = some why)
include hf hr

theorem exec_of_refused (i : Instr) : exec i s = .refused (.runRefused why) := by
  obtain ⟨k, hk⟩ := exec_eq_whenLive i
  rw [hk, State.whenLive_of_refused hf hr]

theorem step_of_refused : step s = .refused (.runRefused why) := by
  rw [step, exec_of_refused hf hr, afterExec_refused]

theorem callEncryptBlock_of_refused (pt key : List Int) :
    callEncryptBlock pt key s = .refused (.runRefused why) :=
  State.whenLive_of_refused hf hr _

end

theorem not_hold_not_reserved_of_busy : ∀ w : PhaseWord,
    w = 0x01#6 ∨ w = 0x02#6 ∨ w = 0x03#6 ∨ (0x10#6 ≤ w ∧ w ≤ 0x2F#6) → ¬ HoldWord w ∧ ¬ ReservedWord w := by decide

/-- Settles O18: START in a busy phase, and the mark stops everything that needs a live run. -/
theorem refusedRunHasNoFurtherMeaning : Obligations.RefusedRunHasNoFurtherMeaning := by
  refine ⟨fun s hl hb => ?start, fun s why hf hr =>
    ⟨exec_of_refused hf hr, step_of_refused hf hr, callEncryptBlock_of_refused hf hr⟩⟩
  case start =>
    obtain ⟨hw, hv⟩ := not_hold_not_reserved_of_busy _ hb
    exact exec_of_liveEffect hl (.startRefused hw hv)

/-- Settles O19: of the effects only those of START and of the reserved rows touch a mark. -/
theorem onlyTheseInstructionsSetAMark : Obligations.OnlyTheseInstructionsSetAMark := by
  intro i s t h
  obtain ⟨hl, he⟩ := exec_next h
  obtain ⟨hf, hr⟩ := hl
  refine ⟨⟨hf, hr⟩, ?_⟩
  cases he with
  | startFault hv => exact ⟨fun h => absurd hr h, fun _ => .inl ⟨rfl, hv⟩⟩
  | startRefused hw hv => exact ⟨fun _ => ⟨rfl, rfl, hw, hv⟩, fun h => absurd hf h⟩
  | reserved _ hi => exact ⟨fun h => absurd hr h, fun _ => .inr hi⟩
  | fp => simp [hf, hr]
  | _ => exact ⟨fun h => absurd hr h, fun h => absurd hf h⟩

/-- Settles O35: a call in a live run by the answer of `encryptBlock`. -/
theorem encryptBlockCallChangesOnlyTheMark : Obligations.EncryptBlockCallChangesOnlyTheMark := by
  intro pt key s hl
  rw [callEncryptBlock, State.whenLive_of_live hl]
  cases encryptBlock pt key with
  | ok ct => exact ⟨s, rfl, fun _ => rfl, nofun⟩
  | error e => exact ⟨s, rfl, fun _ => rfl, nofun⟩
  | refused why =>
    refine ⟨s.markRefused why, rfl, fun h => absurd rfl (h why), ?_⟩
    rintro ⟨⟩
    rfl

end Sys2Proof.Machine
end

section
/-! PROOFS. Frames (spec/10_state.md R24–R31, R75): what each instruction and each step leaves unchanged. -/

namespace Sys2Proof.Machine

variable {s t u : State}

/-- Settles O21: the registers of each effect; KSROT n writes the entry KS[n] alone. -/
theorem eachRegisterHasItsWriters : Obligations.EachRegisterHasItsWriters := by
  intro i s t h hreset
  obtain ⟨-, he⟩ := exec_next h
  cases he with
  | reset b => exact absurd rfl (hreset b)
  | ksrot idx =>
    refine ⟨fun _ => ⟨rfl, rfl⟩, fun _ h => absurd rfl (h idx), fun j hj => ?ks, fun _ _ => ⟨rfl, rfl⟩,
      fun _ => rfl, rfl⟩
    case ks => exact (State.setKS_get _ _ _ j).trans (if_neg (Ne.symm (hj idx rfl)))
  | round idx => simp [State.afterOneRound]
  | _ => simp

/-- Settles O22: no effect has a write to a port, the turn or the script. -/
theorem instructionsLeaveThePortsAlone : Obligations.InstructionsLeaveThePortsAlone := by
  intro i s t h
  obtain ⟨-, he⟩ := exec_next h
  cases he with
  | fp => simp
  | _ => exact ⟨rfl, rfl, rfl, rfl, rfl, rfl⟩

/-- Only FP writes CT among the core's steps, and none draws. -/
theorem coreStep_ct_draws {p : Phase} (hp : p ≠ .fp) :
    (s.coreStep p).ct = s.ct ∧ (s.coreStep p).draws = s.draws := by
  cases p with
  | fp => exact absurd rfl hp
  | _ => exact ⟨rfl, rfl⟩

theorem decodePhase_eq_fp_iff : ∀ w : PhaseWord, decodePhase w = .fp ↔ w = 0x03#6 := by decide

/-- Of the transitions only RESET and the core's step of FP write CT, and only RESET draws. -/
theorem Transition.ct_draws (hu : Transition s u) (hrst : s.rst = false) (hfp : ¬ (s.CoreMoves ∧ s.phase = 0x03#6)) :
    u.ct = s.ct ∧ u.draws = s.draws := by
  cases hu with
  | reset hr => exact absurd (hrst.symm.trans hr) nofun
  | core hm => exact coreStep_ct_draws fun hp => hfp ⟨hm, (decodePhase_eq_fp_iff _).mp hp⟩
  | _ => exact ⟨rfl, rfl⟩

/-- Settles O24: the host's inputs moving on leaves CT too. -/
theorem ciphertextStaysUntilFp : Obligations.CiphertextStaysUntilFp := by
  intro s t h hrst hfp
  obtain ⟨-, u, hu, rfl⟩ := step_cases h
  rw [State.advanceHost_ct, (hu.ct_draws hrst hfp).1]

theorem not_reservedWord_successor : ∀ w : PhaseWord, ¬ ReservedWord w →
    ¬ ReservedWord (encodePhase (successor (decodePhase w))) := by decide

theorem decodePhase_ne_reserved : ∀ w : PhaseWord, ¬ ReservedWord w → ∀ v, decodePhase w ≠ .reserved v := by
  intro w hv
  by_cases hw : HoldWord w
  · rcases decodePhase_of_hold w hw with e | e <;> rw [e] <;> nofun
  · rcases decodePhase_of_busy w hw hv with e | e | e | e | e <;> rw [e] <;> nofun

/-- PHASE after the core's step is its successor's word. -/
theorem coreStep_phase_eq {p : Phase} (hp : s.phase = encodePhase p) :
    (s.coreStep p).phase = encodePhase (successor p) := by
  cases p with
  | idle => exact hp
  | done => exact hp
  | reserved => exact hp
  | _ => rfl

theorem coreStep_marks {p : Phase} (hp : ∀ w, p ≠ .reserved w) :
    (s.coreStep p).fault = s.fault ∧ (s.coreStep p).refused = s.refused := by
  cases p with
  | reserved w => exact absurd rfl (hp w)
  | fp => simp [State.coreStep]
  | _ => exact ⟨rfl, rfl⟩

/-- Settles O20: each transition from an assigned phase, the core's by its successor. -/
theorem assignedPhasesLeadToAssignedPhases : Obligations.AssignedPhasesLeadToAssignedPhases := by
  intro s t hf hv h
  obtain ⟨-, u, hu, rfl⟩ := step_cases h
  rw [State.advanceHost_fault, State.advanceHost_phase]
  cases hu with
  | reset => exact ⟨hf, (by decide : ¬ ReservedWord 0x00#6)⟩
  | latch => exact ⟨hf, (by decide : ¬ ReservedWord 0x01#6)⟩
  | startFault _ _ hr => exact absurd hr hv
  | startRefused => exact ⟨hf, hv⟩
  | noTurn => exact ⟨hf, hv⟩
  | core =>
    rw [coreStep_phase_eq (encodePhase_decodePhase _).symm]
    exact ⟨(coreStep_marks (decodePhase_ne_reserved _ hv)).1.trans hf, not_reservedWord_successor _ hv⟩

end Sys2Proof.Machine
end

section
/-! PROOFS. Noninterference (spec/44_sequencer.md R193; spec/70_reset_and_hazards.md R219–R221; spec/10_state.md R36, R38):
two states in a relation make transitions to states in the relation. -/

namespace Sys2Proof.Machine

variable {s s' t u u' : State} {i : Instr}

/-! ## RESET and the operand ports -/

/-- Settles O6: both steps are RESETs, and the host's inputs then move on as the ports and the script say. -/
theorem stepWithRstEndsInIdle : Obligations.StepWithRstEndsInIdle := by
  intro s s' hr hr' hl hl' hk hp hsc
  have hports := State.advanceHost_congr (s := s.drawRegisters.goto .idle) (t := s'.drawRegisters.goto .idle) hsc hk hp
  simp only [Prod.mk.injEq] at hports
  obtain ⟨hkey, hpt, hstart, hrst, hturn, hscript⟩ := hports
  refine ⟨_, _, step_of_transition hl (.reset hr), step_of_transition hl' (.reset hr'), ?_⟩
  simp only [State.advanceHost_phase, State.advanceHost_fault, State.advanceHost_refused]
  exact ⟨rfl, rfl, hl.1.trans hl'.1.symm, hl.2.trans hl'.2.symm, hkey, hpt, hstart, hrst, hturn, hscript⟩

/-- The host's operand ports with other values. -/
def State.withOperands (s : State) (k : Key64) (p : Block64) : State := { s with keyIn := k, ptIn := p }

/-- Every effect but START's is the same under other operand ports. -/
theorem LiveEffect.withOperands (h : LiveEffect s i t) (hi : i ≠ .start) (k : Key64) (p : Block64) :
    LiveEffect (s.withOperands k p) i (t.withOperands k p) := by
  cases h with
  | reset b => exact .reset b
  | latch => exact absurd rfl hi
  | startFault => exact absurd rfl hi
  | startRefused => exact absurd rfl hi
  | nop => exact .nop
  | idle => exact .idle
  | done => exact .done
  | pc1 => exact .pc1
  | ksrot idx => exact .ksrot idx
  | ip => exact .ip
  | round idx => exact .round idx
  | fp => exact .fp
  | reserved _ hrow => exact .reserved _ hrow

/-- In a live run every instruction has an effect. -/
theorem exists_liveEffect (s : State) (i : Instr) : ∃ t, LiveEffect s i t := by
  cases i with
  | reset b => exact ⟨_, .reset b⟩
  | start =>
    by_cases hw : HoldWord s.phase
    · exact ⟨_, .latch hw⟩
    · by_cases hv : ReservedWord s.phase
      · exact ⟨_, .startFault hv⟩
      · exact ⟨_, .startRefused hw hv⟩
  | nop => exact ⟨_, .nop⟩
  | idle => exact ⟨_, .idle⟩
  | pc1 => exact ⟨_, .pc1⟩
  | ip => exact ⟨_, .ip⟩
  | fp => exact ⟨_, .fp⟩
  | done => exact ⟨_, .done⟩
  | rsvd05 => exact ⟨_, .reserved _ (.inl rfl)⟩
  | rsvd06 w => exact ⟨_, .reserved _ (.inr (.inl ⟨w, rfl⟩))⟩
  | rsvd08 w => exact ⟨_, .reserved _ (.inr (.inr (.inl ⟨w, rfl⟩)))⟩
  | ksrot idx => exact ⟨_, .ksrot idx⟩
  | round idx => exact ⟨_, .round idx⟩
  | rsvd30 w => exact ⟨_, .reserved _ (.inr (.inr (.inr ⟨w, rfl⟩)))⟩

/-- The three outcomes of an instruction, by the marks of the state. -/
theorem exec_outcomes (i : Instr) (s : State) :
    (∃ t, LiveEffect s i t ∧ exec i s = .next t ∧ s.Live) ∨
    (∃ f, s.fault = some f ∧ exec i s = .fault f) ∨
    ∃ why, s.fault = none ∧ s.refused = some why ∧ exec i s = .refused (.runRefused why) := by
  cases hf : s.fault with
  | some f => exact .inr (.inl ⟨f, rfl, exec_of_fault hf i⟩)
  | none =>
    cases hr : s.refused with
    | some why => exact .inr (.inr ⟨why, rfl, rfl, exec_of_refused hf hr i⟩)
    | none =>
      obtain ⟨t, ht⟩ := exists_liveEffect s i
      exact .inl ⟨t, ht, exec_of_liveEffect ⟨hf, hr⟩ ht, hf, hr⟩

/-- Settles O23: each of the three outcomes is the same one under other operand ports. -/
theorem operandPortsMatterOnlyToStart : Obligations.OperandPortsMatterOnlyToStart := by
  intro i s k p hi
  rcases exec_outcomes i s with ⟨u, he, hu, hl⟩ | ⟨f, hf, hu⟩ | ⟨why, hf, hr, hu⟩
  · rw [hu]
    refine ⟨?_, nofun, nofun⟩
    rintro _ ⟨⟩
    exact exec_of_liveEffect (s := s.withOperands k p) hl (he.withOperands hi k p)
  · rw [hu]
    refine ⟨nofun, ?_, nofun⟩
    rintro _ ⟨⟩
    exact exec_of_fault (s := s.withOperands k p) hf i
  · rw [hu]
    refine ⟨nofun, nofun, ?_⟩
    rintro _ ⟨⟩
    exact exec_of_refused (s := s.withOperands k p) hf hr i

/-! ## Control -/

theorem State.SameControl.live (h : s.SameControl s') (hl : s.Live) : s'.Live := by
  obtain ⟨-, hf, hr, -⟩ := h
  exact ⟨hf.symm.trans hl.1, hr.symm.trans hl.2⟩

theorem State.SameControl.goto (h : s.SameControl s') (p : Phase) : (s.goto p).SameControl (s'.goto p) := by
  obtain ⟨-, hf, hr, hrst, hst, ht, hsc⟩ := h
  exact ⟨rfl, hf, hr, hrst, hst, ht, hsc⟩

theorem State.SameControl.markFault (h : s.SameControl s') (f : Fault) :
    (s.markFault f).SameControl (s'.markFault f) := by
  obtain ⟨hph, -, hr, hrst, hst, ht, hsc⟩ := h
  exact ⟨hph, rfl, hr, hrst, hst, ht, hsc⟩

theorem State.SameControl.markRefused (h : s.SameControl s') (why : RefusalReason) :
    (s.markRefused why).SameControl (s'.markRefused why) := by
  obtain ⟨hph, hf, -, hrst, hst, ht, hsc⟩ := h
  exact ⟨hph, hf, rfl, hrst, hst, ht, hsc⟩

/-- The next command bits and turn are those of the script's next entry, or no command and the core's turn. -/
theorem State.SameControl.advanceHost (h : s.SameControl s') : s.advanceHost.SameControl s'.advanceHost := by
  obtain ⟨hph, hf, hr, -, -, -, hsc⟩ := h
  cases hs : s.script with
  | nil =>
    have hs' : s'.script = [] := by simpa [hs, eq_comm] using hsc
    rw [State.advanceHost_nil hs, State.advanceHost_nil hs']
    exact ⟨hph, hf, hr, rfl, rfl, rfl, hsc⟩
  | cons inp rest =>
    rw [hs, List.map_cons] at hsc
    obtain ⟨inp', rest', hs', hinp, hrest⟩ := List.map_eq_cons_iff.mp hsc.symm
    simp only [HostInput.control, Prod.mk.injEq] at hinp
    obtain ⟨hrst, hst, ht⟩ := hinp
    rw [State.advanceHost_cons hs, State.advanceHost_cons hs']
    exact ⟨hph, hf, hr, hrst.symm, hst.symm, ht.symm, hrest.symm⟩

/-- A core step's control part depends on its phase alone. -/
theorem State.SameControl.coreStep (h : s.SameControl s') (p : Phase) :
    (s.coreStep p).SameControl (s'.coreStep p) := by
  cases p with
  | idle => exact h
  | done => exact h
  | fp => simpa [State.SameControl, State.coreStep] using h.2
  | pc1 => exact State.SameControl.goto (s := s.setCD _) (s' := s'.setCD _) h _
  | ip => exact State.SameControl.goto (s := s.setLR _) (s' := s'.setLR _) h _
  | ksrot idx => exact State.SameControl.goto (s := (s.setCD _).setKS idx _) (s' := (s'.setCD _).setKS idx _) h _
  | round idx => exact State.SameControl.goto (s := s.setLR _) (s' := s'.setLR _) h _
  | reserved w => exact h.markFault _

theorem Transition.sameControl (hu : Transition s u) (h : s.SameControl s') :
    ∃ u', Transition s' u' ∧ u.SameControl u' := by
  obtain ⟨eph, -, -, erst, est, eturn, -⟩ := id h
  cases hu with
  | reset hr =>
    exact ⟨_, .reset (erst ▸ hr), State.SameControl.goto (s := s.drawRegisters) (s' := s'.drawRegisters) h _⟩
  | latch hr hs hw =>
    exact ⟨_, .latch (erst ▸ hr) (est ▸ hs) (eph ▸ hw),
      State.SameControl.goto (s := s.latchOperands) (s' := s'.latchOperands) h _⟩
  | startFault hr hs hv => exact ⟨_, .startFault (erst ▸ hr) (est ▸ hs) (eph ▸ hv), h.markFault _⟩
  | startRefused hr hs hw hv =>
    exact ⟨_, .startRefused (erst ▸ hr) (est ▸ hs) (eph ▸ hw) (eph ▸ hv), h.markRefused _⟩
  | noTurn hr hs ht => exact ⟨_, .noTurn (erst ▸ hr) (est ▸ hs) (eturn ▸ ht), h⟩
  | core hm =>
    refine ⟨_, .core ⟨erst ▸ hm.1, est ▸ hm.2.1, eturn ▸ hm.2.2⟩, ?_⟩
    rw [← eph]
    exact h.coreStep _

theorem step_sameControl (h : s.SameControl s') (hstep : step s = .next t) :
    ∃ t', step s' = .next t' ∧ t.SameControl t' := by
  obtain ⟨hl, u, hu, rfl⟩ := step_cases hstep
  obtain ⟨u', hu', hcontrol⟩ := hu.sameControl h
  exact ⟨_, step_of_transition (h.live hl) hu', hcontrol.advanceHost⟩

/-- Settles O42, by induction on the number of steps. -/
theorem controlDoesNotDependOnData : Obligations.ControlDoesNotDependOnData := by
  intro n
  induction n with
  | zero =>
    rintro s s' t h ⟨⟩
    exact ⟨s', run_zero s', h⟩
  | succ n ih =>
    intro s s' t h hrun
    obtain ⟨u, hu, hrest⟩ := run_succ_next hrun
    obtain ⟨u', hu', hsame⟩ := step_sameControl h hu
    obtain ⟨t', ht', hfinal⟩ := ih u u' t hsame hrest
    exact ⟨t', (run_succ_of_next hu' n).trans ht', hfinal⟩

/-! ## The hidden registers -/

theorem State.SameVisible.sameControl (h : s.SameVisible s') : s.SameControl s' := by
  obtain ⟨-, -, hst, hrst, -, hph, hf, hr, ht, hsc, -⟩ := h
  exact ⟨hph, hf, hr, hrst, hst, ht, congrArg _ hsc⟩

theorem State.SameVisible.outputs (h : s.SameVisible s') : s.outputs = s'.outputs := by
  obtain ⟨-, -, -, -, hct, hph, hf, hr, -⟩ := h
  exact State.outputs_congr hf hr hph hct

theorem State.SameVisible.advanceHost (h : s.SameVisible s') : s.advanceHost.SameVisible s'.advanceHost := by
  obtain ⟨hk, hp, -, -, hct, hph, hf, hr, -, hsc, hd⟩ := h
  have hports := State.advanceHost_congr hsc hk hp
  simp only [Prod.mk.injEq] at hports
  obtain ⟨hkey, hpt, hstart, hrst, hturn, hscript⟩ := hports
  simp only [State.SameVisible, State.advanceHost_ct, State.advanceHost_phase, State.advanceHost_fault,
    State.advanceHost_refused, State.advanceHost_draws]
  exact ⟨hkey, hpt, hstart, hrst, hct, hph, hf, hr, hturn, hscript, hd⟩

/-- Transitions of one control agree outside the hidden registers when neither writes CT: the operand ports and the
script are not written by any. -/
theorem Transition.sameVisible (hl : s.Live) (hl' : s'.Live) (h : s.SameVisible s') (hu : Transition s u)
    (hu' : Transition s' u') (hcontrol : u.SameControl u') (hrst : s.rst = false)
    (hfp : ¬ (s.CoreMoves ∧ s.phase = 0x03#6)) : u.SameVisible u' := by
  obtain ⟨hk, hp, hst, hr, hct, hph, -, -, hturn, hsc, hd⟩ := h
  obtain ⟨cph, cf, cr, crst, cst, cturn, -⟩ := hcontrol
  obtain ⟨uk, up, -, -, -, usc⟩ := instructionsLeaveThePortsAlone _ _ _ (exec_of_transition hl hu)
  obtain ⟨uk', up', -, -, -, usc'⟩ := instructionsLeaveThePortsAlone _ _ _ (exec_of_transition hl' hu')
  obtain ⟨uct, ud⟩ := hu.ct_draws hrst hfp
  obtain ⟨uct', ud'⟩ := hu'.ct_draws (hr ▸ hrst) (by rwa [State.CoreMoves, ← hr, ← hst, ← hturn, ← hph])
  exact ⟨by rw [uk, uk', hk], by rw [up, up', hp], cst, crst, by rw [uct, uct', hct], cph, cf, cr, cturn,
    by rw [usc, usc', hsc], by rw [ud, ud', hd]⟩

/-- Settles O27: the transition of the one state is matched by one of the other, and neither writes CT. -/
theorem hiddenRegistersShowOnlyThroughFp : Obligations.HiddenRegistersShowOnlyThroughFp := by
  intro s s' t h hrst hfp hstep
  obtain ⟨hl, u, hu, rfl⟩ := step_cases hstep
  have hl' := h.sameControl.live hl
  obtain ⟨u', hu', hcontrol⟩ := hu.sameControl h.sameControl
  have hvis := hu.sameVisible hl hl' h hu' hcontrol hrst hfp
  exact ⟨_, step_of_transition hl' hu', hvis.advanceHost, hvis.advanceHost.outputs⟩

end Sys2Proof.Machine
end

section
/-! PROOFS. The key schedule (spec/40_key_schedule.md): rotation by the sum of the shifts (R106, R110) and the parity
elements (R102). -/

namespace Sys2Proof.Machine

variable {k k' : Key64} {n : Nat}

theorem rotl_rotl {w : Nat} (x : BitVec w) (a b : Nat) : rotl (rotl x a) b = rotl x ((a + b) % w) := by
  refine eq_of_elem fun i hi => ?_
  have hw : 0 < w := by omega
  rw [elem_rotl hi, elem_rotl (Nat.mod_lt _ hw), elem_rotl hi]
  congr 1
  rw [Nat.mod_add_mod, Nat.add_mod_mod, Nat.add_assoc, Nat.add_comm b]

theorem rotl_zero {w : Nat} (x : BitVec w) : rotl x 0 = x := by
  refine eq_of_elem fun i hi => ?_
  rw [elem_rotl hi, Nat.add_zero, Nat.mod_eq_of_lt hi]

/-- SHIFT(1) + ... + SHIFT(n) (R104). -/
def shiftSum (n : Nat) : Nat := ((List.range n).map fun j => shiftAmount (j + 1)).sum

theorem shiftSum_succ (n : Nat) : shiftSum (n + 1) = shiftSum n + shiftAmount (n + 1) := by
  simp [shiftSum, List.range_succ]

theorem cdAt_eq_rotl (k : Key64) (n : Nat) :
    cdAt k n = (rotl (cdAt k 0).1 (shiftSum n % 28), rotl (cdAt k 0).2 (shiftSum n % 28)) := by
  induction n with
  | zero => simp [shiftSum, rotl_zero]
  | succ n ih =>
    rw [cdAt_succ, ih, ksRotate]
    simp only [rotl_rotl, Nat.mod_add_mod, shiftSum_succ]

/-- Settles O29: rotations add up, and sixteen of them make one full turn of 28. -/
theorem keyHalvesRotateByTheSumOfShifts : Obligations.KeyHalvesRotateByTheSumOfShifts := by
  refine ⟨fun k n _ => cdAt_eq_rotl k n, fun k => ?turn⟩
  case turn =>
    have hsum : shiftSum 16 % 28 = 0 := by decide
    rw [cdAt_eq_rotl k 16, hsum, rotl_zero, rotl_zero]

/-! ## Parity -/

/-- PC-1 selects no parity element. -/
theorem tablePC1_mod_eight : ∀ j, j < 56 → tablePC1.getD j 0 - 1 < 64 ∧ (tablePC1.getD j 0 - 1) % 8 ≠ 7 := by decide

theorem pc1_eq_of_elem (h : ∀ i, i < 64 → i % 8 ≠ 7 → elem k i = elem k' i) : pc1 k = pc1 k' := by
  refine eq_of_elem fun j hj => ?_
  obtain ⟨hlt, hmod⟩ := tablePC1_mod_eight j hj
  rw [elem_pc1 k hj, elem_pc1 k' hj, h _ hlt hmod]

theorem cdAt_eq_of_pc1 (h : pc1 k = pc1 k') (n : Nat) : cdAt k n = cdAt k' n := by
  induction n with
  | zero => rw [cdAt_zero, cdAt_zero, h]
  | succ n ih => rw [cdAt_succ, cdAt_succ, ih]

theorem keySchedule_eq_of_pc1 (h : pc1 k = pc1 k') : keySchedule k = keySchedule k' := by
  simp only [keySchedule, roundKey, cdAt_eq_of_pc1 h]

/-- Settles O30: PC-1 drops the parity elements, and everything after it sees its selection alone. -/
theorem parityElementsHaveNoEffect : Obligations.ParityElementsHaveNoEffect := by
  intro k k' h
  have hks := keySchedule_eq_of_pc1 (pc1_eq_of_elem h)
  exact ⟨hks, fun p => by rw [desEncrypt, desEncrypt, hks]⟩

end Sys2Proof.Machine
end

section
/-! PROOFS. The mangler element by element (spec/42_mangler.md), and what complementing does to each function of the
cipher (R165). -/

namespace Sys2Proof.Machine

/-- Settles O31: each function of the mangler at one element, from the output back to the tables. -/
theorem manglerElementByElement : Obligations.ManglerElementByElement := by
  intro r k j hj
  have hq : tableP.getD j 0 - 1 < 32 := (by decide : ∀ j, j < 32 → tableP.getD j 0 - 1 < 32) j hj
  generalize hqdef : tableP.getD j 0 - 1 = q at hq
  have hg : q / 4 < 8 := by omega
  have hx : ∀ i, i < 6 → elem (sboxGroup (keyMix (expand r) k) (q / 4)) i =
      (elem r (tableE.getD (6 * (q / 4) + i) 0 - 1) ^^ elem k (6 * (q / 4) + i)) := by
    intro i hi
    rw [elem_sboxGroup _ hg hi, keyMix, elem_xor, elem_expand r (by omega)]
  have hlt := sboxEntry_lt _ hg _ (sboxRow_lt (sboxGroup (keyMix (expand r) k) (q / 4))) _
    (sboxCol_lt (sboxGroup (keyMix (expand r) k) (q / 4)))
  dsimp only
  rw [mangler, elem_pPerm _ hj, hqdef, elem_sLayer _ hq, sbox, elem_bin4 _ hlt _ (Nat.mod_lt _ (by decide))]
  rw [sboxRow, sboxCol, hx 0 (by decide), hx 1 (by decide), hx 2 (by decide), hx 3 (by decide), hx 4 (by decide),
    hx 5 (by decide)]

/-! ## Complements -/

theorem elem_not {w : Nat} (x : BitVec w) {i : Nat} (hi : i < w) : elem (~~~x) i = !elem x i := by
  simp [elem, hi]

/-- A permutation whose entries are all elements of its input commutes with the complement. -/
theorem permute_not {w m : Nat} {table : List Nat} (x : BitVec w) (hm : table.length = m)
    (ht : ∀ j, j < m → table.getD j 0 - 1 < w) : permute m table (~~~x) = ~~~(permute m table x) := by
  refine eq_of_elem fun j hj => ?_
  rw [elem_not _ hj, elem_permute hm hj, elem_permute hm hj, elem_not _ (ht j hj)]

theorem slice_not {w m a : Nat} (x : BitVec w) (h : a + m ≤ w) : slice m (~~~x) a = ~~~(slice m x a) := by
  refine eq_of_elem fun i hi => ?_
  rw [elem_not _ hi, elem_slice h hi, elem_slice h hi, elem_not _ (by omega)]

theorem rotl_not {w : Nat} (x : BitVec w) (n : Nat) : rotl (~~~x) n = ~~~(rotl x n) := by
  refine eq_of_elem fun i hi => ?_
  rw [elem_not _ hi, elem_rotl hi, elem_rotl hi, elem_not _ (Nat.mod_lt _ (by omega))]

theorem pc1_not (k : Key64) : pc1 (~~~k) = ~~~(pc1 k) := permute_not k tablePC1_length (by decide)
theorem pc2_not (cd : PermutedKey56) : pc2 (~~~cd) = ~~~(pc2 cd) := permute_not cd tablePC2_length (by decide)
theorem expand_not (r : Half32) : expand (~~~r) = ~~~(expand r) := permute_not r tableE_length (by decide)
theorem ip_not (p : Block64) : ip (~~~p) = ~~~(ip p) := permute_not p tableIP_length (by decide)
theorem fp_not (x : Block64) : fp (~~~x) = ~~~(fp x) := permute_not x tableFP_length (by decide)

theorem join28_not (a b : Half28) : join28 (~~~a) (~~~b) = ~~~(join28 a b) := BitVec.not_append.symm
theorem join32_not (a b : Half32) : join32 (~~~a) (~~~b) = ~~~(join32 a b) := BitVec.not_append.symm

theorem cdAt_not (k : Key64) (n : Nat) : cdAt (~~~k) n = (~~~(cdAt k n).1, ~~~(cdAt k n).2) := by
  induction n with
  | zero =>
    simp only [cdAt_zero, split, pc1_not, slice_not _ (by decide : 0 + 28 ≤ 56),
      slice_not _ (by decide : 28 + 28 ≤ 56)]
  | succ n ih => simp only [cdAt_succ, ih, ksRotate, rotl_not]

theorem roundKey_not (k : Key64) (n : Nat) : roundKey (~~~k) n = ~~~(roundKey k n) := by
  simp only [roundKey, cdAt_not, join28_not, pc2_not]

/-- The mangler does not see a complement of both its arguments: the key mixing cancels it. -/
theorem mangler_not (r : Half32) (k : RoundKey48) : mangler (~~~r) (~~~k) = mangler r k := by
  have hmix : ~~~(expand r) ^^^ ~~~k = expand r ^^^ k := by
    rw [← BitVec.not_xor_left, ← BitVec.not_xor_right, BitVec.not_not]
  rw [mangler, mangler, expand_not, keyMix, keyMix, hmix]

theorem feistelRound_not (l r : Half32) (k : RoundKey48) :
    feistelRound (~~~l) (~~~r) (~~~k) = (~~~(feistelRound l r k).1, ~~~(feistelRound l r k).2) := by
  rw [feistelRound, feistelRound, mangler_not, BitVec.not_xor_left]

theorem ipHalves_not (p : Block64) : ipHalves (~~~p) = (~~~(ipHalves p).1, ~~~(ipHalves p).2) := by
  simp only [ipHalves, ip_not, slice_not _ (by decide : 0 + 32 ≤ 64), slice_not _ (by decide : 32 + 32 ≤ 64)]

theorem lrAt_not (l r : Half32) (k : Key64) {n : Nat} (hn : n ≤ 16) :
    lrAt (~~~l) (~~~r) (keySchedule (~~~k)) n =
      (~~~(lrAt l r (keySchedule k) n).1, ~~~(lrAt l r (keySchedule k) n).2) := by
  induction n with
  | zero => rfl
  | succ n ih =>
    rw [lrAt_succ, lrAt_succ, ih (by omega), keySchedule_getD _ hn, keySchedule_getD _ hn, roundKey_not,
      feistelRound_not]

/-- Settles O32: every function of the cipher but the mangler commutes with the complement. -/
theorem complementedInputsGiveComplementedOutput : Obligations.ComplementedInputsGiveComplementedOutput := by
  intro p k
  rw [desEncrypt, ipHalves_not, feistelRounds, lrAt_not _ _ _ le_rfl, join32_not, fp_not, desEncrypt, feistelRounds]

end Sys2Proof.Machine
end

section
/-! PROOFS. FP undoes IP (spec/43_driver.md R164), and the cipher undoes itself under a key whose round keys are all equal
(R165). -/

namespace Sys2Proof.Machine

variable {k : Key64}

theorem tableIP_tableFP : ∀ j, j < 64 → tableFP.getD j 0 - 1 < 64 ∧ tableIP.getD (tableFP.getD j 0 - 1) 0 - 1 = j := by
  decide

theorem tableFP_tableIP : ∀ j, j < 64 → tableIP.getD j 0 - 1 < 64 ∧ tableFP.getD (tableIP.getD j 0 - 1) 0 - 1 = j := by
  decide

theorem fp_ip (x : Block64) : fp (ip x) = x := by
  refine eq_of_elem fun j hj => ?_
  obtain ⟨hlt, hj'⟩ := tableIP_tableFP j hj
  rw [elem_fp _ hj, elem_ip _ hlt, hj']

theorem ip_fp (x : Block64) : ip (fp x) = x := by
  refine eq_of_elem fun j hj => ?_
  obtain ⟨hlt, hj'⟩ := tableFP_tableIP j hj
  rw [elem_ip _ hj, elem_fp _ hlt, hj']

/-- Settles O28. -/
theorem finalPermutationInvertsInitial : Obligations.FinalPermutationInvertsInitial :=
  fun x => ⟨fp_ip x, ip_fp x⟩

theorem join32_slice (x : Block64) : join32 (slice 32 x 0) (slice 32 x 32) = x := by
  refine eq_of_elem fun i hi => ?_
  rw [elem_join32]
  split_ifs with h
  · rw [elem_slice (by decide) h, Nat.zero_add]
  · rw [elem_slice (by decide) (by omega), Nat.add_sub_cancel' (by omega)]

theorem slice_join32_left (a b : Half32) : slice 32 (join32 a b) 0 = a := by
  refine eq_of_elem fun i hi => ?_
  rw [elem_slice (by decide) hi, elem_join32, Nat.zero_add, if_pos hi]

theorem slice_join32_right (a b : Half32) : slice 32 (join32 a b) 32 = b := by
  refine eq_of_elem fun i hi => ?_
  rw [elem_slice (by decide) hi, elem_join32, if_neg (by omega), Nat.add_sub_cancel_left]

/-- IP's halves of a block that FP made of two halves in the order of R122 are those halves, swapped. -/
theorem ipHalves_fp_join32 (lr : Half32 × Half32) : ipHalves (fp (join32 lr.2 lr.1)) = lr.swap := by
  rw [ipHalves, ip_fp, slice_join32_left, slice_join32_right, Prod.swap]

theorem fp_join32_ipHalves (p : Block64) : fp (join32 (ipHalves p).1 (ipHalves p).2) = p := by
  rw [ipHalves, join32_slice, fp_ip]

/-- One round with key `K`, on a pair of halves. -/
def roundWith (K : RoundKey48) (lr : Half32 × Half32) : Half32 × Half32 := feistelRound lr.1 lr.2 K

/-- A round, the halves swapped, and the round again only swap the halves. -/
theorem roundWith_swap_roundWith (K : RoundKey48) (lr : Half32 × Half32) :
    roundWith K (roundWith K lr).swap = lr.swap := by
  simp [roundWith, feistelRound, Prod.swap]

theorem roundWith_iterate_swap (K : RoundKey48) (n : Nat) (lr : Half32 × Half32) :
    (roundWith K)^[n] ((roundWith K)^[n] lr).swap = lr.swap := by
  induction n with
  | zero => rfl
  | succ n ih => rw [Function.iterate_succ_apply, Function.iterate_succ_apply' _ n lr, roundWith_swap_roundWith, ih]

theorem lrAt_eq_iterate {ks : Vector RoundKey48 16} {K : RoundKey48} (h : ∀ n, n < 16 → ks.getD n 0 = K)
    (lr : Half32 × Half32) {n : Nat} (hn : n ≤ 16) : lrAt lr.1 lr.2 ks n = (roundWith K)^[n] lr := by
  induction n with
  | zero => rfl
  | succ n ih => rw [lrAt_succ, ih (by omega), h n hn, Function.iterate_succ_apply', roundWith]

/-- With one key in all rounds the sixteen rounds are their own inverse up to the swap that ends them. -/
theorem desEncrypt_desEncrypt_of_equal_keys {K : RoundKey48} (h : ∀ n, n < 16 → (keySchedule k).getD n 0 = K)
    (p : Block64) : desEncrypt (desEncrypt p k) k = p := by
  have hrounds : ∀ lr : Half32 × Half32, feistelRounds lr.1 lr.2 (keySchedule k) =
      join32 ((roundWith K)^[16] lr).2 ((roundWith K)^[16] lr).1 := by
    intro lr
    rw [feistelRounds, lrAt_eq_iterate h lr le_rfl]
  have hinv := roundWith_iterate_swap K 16 (ipHalves p)
  rw [desEncrypt, desEncrypt, hrounds (ipHalves p), ipHalves_fp_join32,
    hrounds ((roundWith K)^[16] (ipHalves p)).swap, hinv]
  exact fp_join32_ipHalves p

/-! ## Constant halves -/

theorem elem_zero {w i : Nat} : elem (0 : BitVec w) i = false := by simp [elem]

theorem elem_allOnes {w i : Nat} (hi : i < w) : elem (BitVec.allOnes w) i = true := by simp [elem, hi]

theorem rotl_of_constant {w : Nat} {x : BitVec w} (h : x = 0 ∨ x = BitVec.allOnes w) (n : Nat) : rotl x n = x := by
  refine eq_of_elem fun i hi => ?_
  rw [elem_rotl hi]
  rcases h with rfl | rfl
  · rw [elem_zero, elem_zero]
  · rw [elem_allOnes (Nat.mod_lt _ (by omega)), elem_allOnes hi]

theorem cdAt_of_constant (hc : (cdAt k 0).1 = 0 ∨ (cdAt k 0).1 = BitVec.allOnes 28)
    (hd : (cdAt k 0).2 = 0 ∨ (cdAt k 0).2 = BitVec.allOnes 28) (n : Nat) : cdAt k n = cdAt k 0 := by
  rw [cdAt_eq_rotl, rotl_of_constant hc, rotl_of_constant hd]

/-- Settles O33: rotation does nothing to constant halves, so every round has one key. -/
theorem weakKeysEncryptTwiceToTheIdentity : Obligations.WeakKeysEncryptTwiceToTheIdentity := by
  intro k hc hd
  have hkey : ∀ n, roundKey k n = roundKey k 0 := fun n => by rw [roundKey, roundKey, cdAt_of_constant hc hd]
  refine ⟨fun i j => ?keys, desEncrypt_desEncrypt_of_equal_keys (K := roundKey k 0) fun n hn => ?rounds⟩
  case keys => rw [keySchedule_get, keySchedule_get, hkey, hkey (j.val + 1)]
  case rounds => rw [keySchedule_getD k hn, hkey]

end Sys2Proof.Machine
end

section
/-! PROOFS. The register invariant of R40: what the registers hold at the start of each phase, the core's step from a phase
to its successor, and the ciphertext that DONE shows. -/

namespace Sys2Proof.Machine

variable {s t u : State} {p : Phase} {idx : BitVec 4} {n : Nat}

/-- The row of the table of R40 for a phase. -/
def State.HoldsAt (s : State) : Phase → Prop
  | .idle => True
  | .pc1 => True
  | .ksrot idx => s.HoldsCD idx.toNat ∧ s.HoldsKeys idx.toNat
  | .ip => s.HoldsCD 16 ∧ s.HoldsKeys 16
  | .round idx => s.HoldsCD 16 ∧ s.HoldsKeys 16 ∧ s.HoldsLR idx.toNat
  | .fp => s.HoldsCD 16 ∧ s.HoldsKeys 16 ∧ s.HoldsLR 16
  | .done => s.HoldsCD 16 ∧ s.HoldsKeys 16 ∧ s.HoldsLR 16 ∧ s.ct = fp (join32 s.r s.l)
  | .reserved _ => False

theorem stageInv_iff (hp : decodePhase s.phase = p) : s.StageInv ↔ s.HoldsAt p := by
  subst hp
  exact Iff.rfl

/-- In IDLE nothing is held. -/
theorem stageInv_of_idle (hp : s.phase = 0x00#6) : s.StageInv :=
  (stageInv_iff (p := .idle) (by rw [hp]; decide)).mpr trivial

/-- In PC1 nothing is held yet. -/
theorem stageInv_of_pc1 (hp : s.phase = 0x01#6) : s.StageInv :=
  (stageInv_iff (p := .pc1) (by rw [hp]; decide)).mpr trivial

/-- The invariant does not speak of the ports, the turn and the script. -/
theorem State.StageInv.advanceHost (h : s.StageInv) : s.advanceHost.StageInv := by
  unfold State.advanceHost
  split <;> exact h

theorem decodePhase_ne_reserved_of_stageInv (h : s.StageInv) (w : PhaseWord) : decodePhase s.phase ≠ .reserved w :=
  fun hp => (stageInv_iff hp).mp h

theorem not_reservedWord_of_stageInv (h : s.StageInv) : ¬ ReservedWord s.phase :=
  fun hr => decodePhase_ne_reserved_of_stageInv h _ (decodePhase_of_reserved _ hr)

/-! ## The core's steps, register by register -/

theorem holdsCD_afterRotation (h : s.HoldsCD idx.toNat) : (s.afterRotation idx).HoldsCD (idx.toNat + 1) := by
  show rotatedHalves idx s = cdAt s.keyR (idx.toNat + 1)
  rw [cdAt_succ, ← h, rotatedHalves, roundNumber]

theorem holdsKeys_afterRotation (hcd : s.HoldsCD idx.toNat) (h : s.HoldsKeys idx.toNat) :
    (s.afterRotation idx).HoldsKeys (idx.toNat + 1) := by
  intro j hj
  have hrot : rotatedHalves idx s = cdAt s.keyR (idx.toNat + 1) := holdsCD_afterRotation hcd
  show ((s.setCD _).setKS idx _).ks.get j = roundKey s.keyR (j.val + 1)
  rw [State.setKS_get, hrot]
  split_ifs with hji
  · rw [hji, roundKey]
  · exact h j (by omega)

theorem toNat_add_one (h : roundNumber idx < 16) : (idx + 1).toNat = idx.toNat + 1 := by
  unfold roundNumber at h
  bv_omega

theorem roundNumber_eq_sixteen (h : ¬ roundNumber idx < 16) : idx.toNat + 1 = 16 := by
  unfold roundNumber at h
  omega

theorem holdsAt_afterKsrot (hcd : s.HoldsCD (idx.toNat + 1)) (hk : s.HoldsKeys (idx.toNat + 1)) :
    s.HoldsAt (afterKsrot idx) := by
  unfold afterKsrot
  split_ifs with h
  · rw [State.HoldsAt, toNat_add_one h]
    exact ⟨hcd, hk⟩
  · rw [roundNumber_eq_sixteen h] at hcd hk
    exact ⟨hcd, hk⟩

theorem holdsLR_afterOneRound (hk : s.HoldsKeys 16) (h : s.HoldsLR idx.toNat) :
    (s.afterOneRound idx).HoldsLR (idx.toNat + 1) := by
  have hkey : s.readKS idx = (keySchedule s.keyR).getD idx.toNat 0 := by
    rw [keySchedule_getD _ idx.isLt]
    exact hk idx.toFin idx.isLt
  show feistelRound s.l s.r (s.readKS idx) = s.lrStage (idx.toNat + 1)
  rw [State.lrStage, lrAt_succ, ← State.lrStage, ← h, hkey]

theorem holdsAt_afterRound (hcd : s.HoldsCD 16) (hk : s.HoldsKeys 16) (h : s.HoldsLR (idx.toNat + 1)) :
    s.HoldsAt (afterRound idx) := by
  unfold afterRound
  split_ifs with hn
  · rw [State.HoldsAt, toNat_add_one hn]
    exact ⟨hcd, hk, h⟩
  · rw [roundNumber_eq_sixteen hn] at h
    exact ⟨hcd, hk, h⟩

theorem holdsAt_done_of_setCT {v : Block64} (h : s.HoldsAt .fp) (hv : v = fp (join32 s.r s.l)) :
    ((s.setCT v).goto .done).HoldsAt .done := by
  obtain ⟨hcd, hk, hlr⟩ := h
  exact ⟨hcd, hk, hlr, hv⟩

/-- The core's step of a phase makes its successor's row from the phase's own. -/
theorem State.HoldsAt.coreStep (h : s.HoldsAt p) : (s.coreStep p).HoldsAt (successor p) := by
  cases p with
  | idle => exact trivial
  | pc1 => exact ⟨rfl, fun j hj => absurd hj (Nat.not_lt_zero _)⟩
  | ksrot idx =>
    obtain ⟨hcd, hk⟩ := h
    exact holdsAt_afterKsrot (holdsCD_afterRotation hcd) (holdsKeys_afterRotation hcd hk)
  | ip =>
    obtain ⟨hcd, hk⟩ := h
    exact ⟨hcd, hk, rfl⟩
  | round idx =>
    obtain ⟨hcd, hk, hlr⟩ := h
    exact holdsAt_afterRound hcd hk (holdsLR_afterOneRound hk hlr)
  | fp => exact holdsAt_done_of_setCT h rfl
  | done => exact h
  | reserved w => exact h.elim

theorem successor_ne_reserved (hp : ∀ w, p ≠ .reserved w) (w : PhaseWord) : successor p ≠ .reserved w := by
  cases p with
  | ksrot idx => rw [successor, afterKsrot]; split_ifs <;> nofun
  | round idx => rw [successor, afterRound]; split_ifs <;> nofun
  | reserved v => exact absurd rfl (hp v)
  | _ => nofun

theorem State.StageInv.coreStep (h : s.StageInv) : (s.coreStep (decodePhase s.phase)).StageInv := by
  have hsucc := successor_ne_reserved (decodePhase_ne_reserved_of_stageInv h)
  have hphase := coreStep_phase_eq (encodePhase_decodePhase s.phase).symm
  rw [stageInv_iff (by rw [hphase, decodePhase_encodePhase hsucc])]
  exact State.HoldsAt.coreStep ((stageInv_iff rfl).mp h)

theorem Transition.stageInv (hu : Transition s u) (h : s.StageInv) : u.StageInv := by
  cases hu with
  | reset => exact stageInv_of_idle rfl
  | latch => exact stageInv_of_pc1 rfl
  | startFault _ _ hr => exact absurd hr (not_reservedWord_of_stageInv h)
  | startRefused => exact h
  | noTurn => exact h
  | core => exact h.coreStep

/-- Settles O36: every transition keeps the invariant, and the host's inputs are none of its business. -/
theorem stageInvariantIsKept : Obligations.StageInvariantIsKept := by
  intro s t h hstep
  obtain ⟨-, u, hu, rfl⟩ := step_cases hstep
  exact (hu.stageInv h).advanceHost

/-- Settles O37: in IDLE the invariant asks for nothing. -/
theorem stageInvariantHoldsAfterReset : Obligations.StageInvariantHoldsAfterReset :=
  ⟨stageInv_of_idle rfl, fun _ _ _ h => stageInv_of_idle (exec_reset_phase h)⟩

/-! ## The ciphertext -/

theorem ct_of_stageInv_done (h : s.StageInv) (hp : decodePhase s.phase = .done) : s.ct = desEncrypt s.ptR s.keyR := by
  obtain ⟨-, -, hlr, hct⟩ := (stageInv_iff hp).mp h
  rw [hct, desEncrypt, feistelRounds, ← State.lrStage, ← hlr]

theorem live_of_done_eq {b : Bool} (h : s.done = some b) : s.Live := by
  by_contra hl
  rw [State.done, State.unmarked_of_not_live hl] at h
  cases h

/-- Settles O38: in DONE the invariant says that CT is FP of the last halves. -/
theorem doneShowsTheCiphertext : Obligations.DoneShowsTheCiphertext := by
  intro s h hdone
  have hl := live_of_done_eq hdone
  rw [State.done_eq_of_live hl, Option.some_inj, doneOf, beq_iff_eq] at hdone
  rw [State.ctOut_of_live hl, ct_of_stageInv_done h hdone]

end Sys2Proof.Machine
end

section
/-! PROOFS. Whole runs (spec/44_sequencer.md R191; spec/70_reset_and_hazards.md R231, R232): a started operation counted
by the core's steps it has taken, through NOPs, schedules and scripts. -/

namespace Sys2Proof.Machine

variable {s s₀ t : State} {k : Nat}

/-! ## Where an operation stands after k core steps -/

/-- The phase k core steps after PC1 was entered. -/
def phaseAfter : Nat → Phase
  | 0 => .pc1
  | k + 1 => successor (phaseAfter k)

theorem phaseAfter_ne_reserved (k : Nat) : ∀ w, phaseAfter k ≠ .reserved w := by
  induction k with
  | zero => nofun
  | succ k ih => exact successor_ne_reserved ih

theorem phaseAfter_of_le (h : 35 ≤ k) : phaseAfter k = .done := by
  induction k, h using Nat.le_induction with
  | base => decide
  | succ k _ ih => rw [phaseAfter, ih, successor]

theorem busyOf_phaseAfter : ∀ k, k < 35 →
    busyOf (encodePhase (phaseAfter k)) = true ∧ doneOf (encodePhase (phaseAfter k)) = false := by decide

theorem phaseAfter_ne_fp : ∀ k, k < 34 → phaseAfter k ≠ .fp := by decide

/-- Every assigned phase but IDLE stands somewhere in an operation. -/
theorem exists_phaseAfter : ∀ w : PhaseWord, w ≠ 0x00#6 → ¬ ReservedWord w →
    ∃ k, k < 36 ∧ w = encodePhase (phaseAfter k) := by decide

/-- A live run whose operation has taken k core steps. -/
structure AtStep (k : Nat) (s : State) : Prop where
  live : s.Live
  phase : s.phase = encodePhase (phaseAfter k)

theorem AtStep.decodePhase_eq (h : AtStep k s) : decodePhase s.phase = phaseAfter k := by
  rw [h.phase, decodePhase_encodePhase (phaseAfter_ne_reserved k)]

theorem AtStep.drive (h : AtStep k s) (inp : HostInput) : AtStep k (s.drive inp) := ⟨h.live, h.phase⟩

theorem AtStep.advanceHost (h : AtStep k s) : AtStep k s.advanceHost where
  live := by simpa [State.Live] using h.live
  phase := by rw [State.advanceHost_phase, h.phase]

/-- The state after the core's step of the phase that PHASE holds. -/
def State.moved (s : State) : State := s.coreStep (decodePhase s.phase)

theorem step_of_coreMoves (hl : s.Live) (hm : s.CoreMoves) : step s = .next s.moved.advanceHost :=
  step_of_transition hl (.core hm)

theorem AtStep.moved (h : AtStep k s) : AtStep (k + 1) s.moved where
  live := by
    obtain ⟨hf, hr⟩ := coreStep_marks (s := s) (phaseAfter_ne_reserved k)
    rw [State.moved, h.decodePhase_eq, State.Live, hf, hr]
    exact h.live
  phase := by rw [State.moved, h.decodePhase_eq, coreStep_phase_eq h.phase, phaseAfter]

theorem moved_script (hl : s.Live) : s.moved.script = s.script := by
  obtain ⟨-, -, -, -, -, hscript⟩ := instructionsLeaveThePortsAlone _ _ _ (exec_coreStep hl (decodePhase s.phase))
  exact hscript

theorem AtStep.phase_done (h : AtStep k s) (hk : 35 ≤ k) : s.phase = 0x04#6 := by
  rw [h.phase, phaseAfter_of_le hk]
  rfl

/-! ## The schedule after the script's end -/

theorem coreMoves_advanceHost (hs : s.script = []) : s.advanceHost.CoreMoves ∧ s.advanceHost.script = [] := by
  rw [State.advanceHost_nil hs]
  exact ⟨⟨rfl, rfl, rfl⟩, hs⟩

/-- With the script at its end, n steps are n steps of the core. -/
theorem AtStep.run_coreMoves (n : Nat) : ∀ {k : Nat} {s : State}, AtStep k s → s.CoreMoves → s.script = [] →
    ∃ t, run n s = .next t ∧ AtStep (k + n) t := by
  induction n with
  | zero => exact fun {k s} h _ _ => ⟨s, run_zero s, h⟩
  | succ n ih =>
    intro k s h hm hs
    obtain ⟨hm', hs'⟩ := coreMoves_advanceHost ((moved_script h.live).trans hs)
    obtain ⟨t, ht, hat⟩ := ih h.moved.advanceHost hm' hs'
    refine ⟨t, (run_succ_of_next (step_of_coreMoves h.live hm) n).trans ht, ?_⟩
    rwa [Nat.add_assoc, Nat.add_comm 1 n] at hat

/-- Settles O41: the operation stands at some step, and takes the steps that are left of 35. -/
theorem startedOperationFinishes : Obligations.StartedOperationFinishes := by
  intro s hl hm hs hidle hr
  obtain ⟨k, hk, hphase⟩ := exists_phaseAfter _ hidle hr
  obtain ⟨t, ht, hat⟩ := AtStep.run_coreMoves (35 - k) ⟨hl, hphase⟩ hm hs
  exact ⟨35 - k, t, by omega, ht, hat.phase_done (by omega), hat.live⟩

/-! ## An encryption in progress -/

/-- The operation of a START in `s₀`, k core steps later: the operands are latched, the registers hold the cipher's values,
and CT is the previous result until FP. -/
structure Encrypting (s₀ : State) (k : Nat) (s : State) : Prop extends AtStep k s where
  inv : s.StageInv
  keyR : s.keyR = s₀.keyIn
  ptR : s.ptR = s₀.ptIn
  ct : k < 35 → s.ct = s₀.ct

theorem Encrypting.start (hl : s.Live) : Encrypting s 0 (s.latchOperands.goto .pc1) :=
  ⟨⟨hl, rfl⟩, stageInv_of_pc1 rfl, rfl, rfl, fun _ => rfl⟩

theorem Encrypting.drive (h : Encrypting s₀ k s) (inp : HostInput) : Encrypting s₀ k (s.drive inp) :=
  ⟨h.toAtStep.drive inp, h.inv, h.keyR, h.ptR, h.ct⟩

theorem Encrypting.withScript (h : Encrypting s₀ k s) (us : List HostInput) :
    Encrypting s₀ k { s with script := us } :=
  ⟨⟨h.live, h.phase⟩, h.inv, h.keyR, h.ptR, h.ct⟩

theorem Encrypting.advanceHost (h : Encrypting s₀ k s) : Encrypting s₀ k s.advanceHost := by
  unfold State.advanceHost
  split
  · exact h.drive _
  · exact (h.drive _).withScript _

theorem coreStep_operands (s : State) (p : Phase) : (s.coreStep p).keyR = s.keyR ∧ (s.coreStep p).ptR = s.ptR := by
  cases p with
  | fp => simp [State.coreStep]
  | _ => exact ⟨rfl, rfl⟩

theorem Encrypting.moved (h : Encrypting s₀ k s) : Encrypting s₀ (k + 1) s.moved where
  toAtStep := h.toAtStep.moved
  inv := h.inv.coreStep
  keyR := (coreStep_operands s _).1.trans h.keyR
  ptR := (coreStep_operands s _).2.trans h.ptR
  ct hk := by
    rw [State.moved, h.decodePhase_eq, (coreStep_ct_draws (phaseAfter_ne_fp k (by omega))).1]
    exact h.ct (by omega)

theorem Encrypting.busy_of_lt (h : Encrypting s₀ k s) (hk : k < 35) : s.busy = some true ∧ s.done = some false := by
  obtain ⟨hb, hd⟩ := busyOf_phaseAfter k hk
  exact ⟨State.busy_of_live h.live (h.phase ▸ hb), State.done_of_live h.live (h.phase ▸ hd)⟩

theorem Encrypting.outputs_of_le (h : Encrypting s₀ k s) (hk : 35 ≤ k) :
    s.outputs = { ctOut := some (desEncrypt s₀.ptIn s₀.keyIn), busy := some false, done := some true } := by
  have hp := h.phase_done hk
  have hct := ct_of_stageInv_done h.inv (by rw [h.decodePhase_eq, phaseAfter_of_le hk])
  rw [State.outputs, State.ctOut_of_live h.live, hct, h.keyR, h.ptR,
    State.busy_of_live h.live (b := false) (by rw [hp]; decide),
    State.done_of_live h.live (b := true) (by rw [hp]; decide)]

theorem Encrypting.done_of_le (h : Encrypting s₀ k s) (hk : 35 ≤ k) : s.done = some true :=
  congrArg Outputs.done (h.outputs_of_le hk)

theorem Encrypting.done_iff (h : Encrypting s₀ k s) : s.done = some true ↔ 35 ≤ k := by
  refine ⟨fun hd => ?_, h.done_of_le⟩
  by_contra hk
  rw [(h.busy_of_lt (by omega)).2] at hd
  cases hd

/-! ## Through any inputs without a command -/

/-- A step under an input without a command counts if it was the core's turn. -/
theorem Encrypting.step_quiet (h : Encrypting s₀ k s) (hr : s.rst = false) (hs : s.start = false) :
    ∃ u, step s = .next u.advanceHost ∧ u.script = s.script ∧ Encrypting s₀ (k + s.coreTurn.toNat) u := by
  cases ht : s.coreTurn with
  | true => exact ⟨_, step_of_coreMoves h.live ⟨hr, hs, ht⟩, moved_script h.live, h.moved⟩
  | false => exact ⟨s, step_of_transition h.live (.noTurn hr hs ht), rfl, h⟩

theorem Encrypting.run_quiet {us rest : List HostInput} : ∀ {k : Nat} {s : State}, Encrypting s₀ k s →
    s.script = us ++ rest → (∀ h ∈ us, h.Quiet) →
    ∃ t, run us.length s.advanceHost = .next t ∧ Encrypting s₀ (k + us.countP fun h => h.coreTurn) t := by
  induction us with
  | nil => exact fun {k s} h _ _ => ⟨s.advanceHost, rfl, h.advanceHost⟩
  | cons inp us ih =>
    intro k s h hscript hquiet
    obtain ⟨⟨hr, hs⟩, hrest⟩ := List.forall_mem_cons.mp hquiet
    rw [State.advanceHost_cons hscript]
    obtain ⟨u, hstep, hus, hu⟩ := Encrypting.step_quiet ((h.drive inp).withScript (us ++ rest)) hr hs
    obtain ⟨t, ht, hat⟩ := ih hu hus hrest
    refine ⟨t, (run_succ_of_next hstep us.length).trans ht, ?_⟩
    have hcount : k + inp.coreTurn.toNat + us.countP (fun h => h.coreTurn) =
        k + (inp :: us).countP fun h => h.coreTurn := by
      cases hc : inp.coreTurn with
      | true =>
        rw [List.countP_cons_of_pos (p := fun h : HostInput => h.coreTurn) hc, Bool.toNat_true]
        omega
      | false => rw [List.countP_cons_of_neg (ne_true_of_eq_false hc), Bool.toNat_false, Nat.add_zero]
    exact hcount ▸ hat

/-- Settles O39: the START begins an operation, and every core turn among the inputs is one of its steps. -/
theorem startThenThirtyFiveStepsEncrypt : Obligations.StartThenThirtyFiveStepsEncrypt := by
  intro s us rest hl hw hr hs hscript hquiet
  obtain ⟨t, ht, hat⟩ := (Encrypting.start hl).run_quiet (s₀ := s) hscript hquiet
  rw [Nat.zero_add] at hat
  refine ⟨t, ?run, hat.live, hat.keyR, hat.ptR, hat.done_iff, fun hk => ?ctOut,
    fun hk => ⟨(hat.busy_of_lt hk).1, hat.ct hk⟩⟩
  case run =>
    rw [Nat.add_comm]
    exact (run_succ_of_next (step_of_transition hl (.latch hr hs hw)) _).trans ht
  case ctOut => exact congrArg Outputs.ctOut (hat.outputs_of_le hk)

/-! ## Host scripts -/

@[simp] theorem ScriptResult.andThen_ran (run : ScriptRun) (next : ScriptRun → ScriptResult) :
    (ScriptResult.ran run).andThen next = next run := rfl

section
variable {reads : List Outputs} {expects : List Bool}

theorem ScriptRun.transition_of_next {inp : HostInput} (h : step (s.drive inp) = .next t) :
    ScriptRun.transition inp ⟨s, reads, expects⟩ = .ran ⟨t, reads, expects⟩ := by
  rw [ScriptRun.transition, Machine.transition, h]

/-- WAIT_DONE ends in a finished operation when it may step as often as the operation still needs. -/
theorem Encrypting.runUntilDone (fuel : Nat) : ∀ {k : Nat} {s : State}, Encrypting s₀ k s → 35 ≤ k + fuel →
    ∃ k' t, Machine.runUntilDone fuel ⟨s, reads, expects⟩ = .ran ⟨t, reads, expects⟩ ∧ 35 ≤ k' ∧
      Encrypting s₀ k' t := by
  induction fuel with
  | zero => exact fun {k s} h hk => ⟨k, s, if_pos (h.done_of_le hk), hk, h⟩
  | succ fuel ih =>
    intro k s h hfuel
    by_cases hk : 35 ≤ k
    · exact ⟨k, s, if_pos (h.done_of_le hk), hk, h⟩
    · have hnext := h.drive (s.quietInput true)
      have hstep := ScriptRun.transition_of_next (reads := reads) (expects := expects)
        (step_of_coreMoves hnext.live ⟨rfl, rfl, rfl⟩)
      rw [Machine.runUntilDone, if_neg (mt h.done_iff.mp hk), hstep, ScriptResult.andThen_ran]
      exact ih hnext.moved.advanceHost (by omega)

/-- ENCRYPT from a hold phase: the START, the wait, and one READ of the finished operation. -/
theorem Stmt.run_encrypt (p : Block64) (k : Key64) (hl : s.Live) (hw : HoldWord s.phase) :
    ∃ n t, Stmt.run (.encrypt p k) ⟨s, reads, expects⟩ = .ran ⟨t, t.outputs :: reads, expects⟩ ∧ 35 ≤ n ∧
      Encrypting (s.drive (s.startInput p k)) n t := by
  have hstart := ScriptRun.transition_of_next (reads := reads) (expects := expects)
    (step_of_transition (s := s.drive (s.startInput p k)) hl (.latch rfl rfl hw))
  obtain ⟨n, t, hwait, hn, ht⟩ := Encrypting.runUntilDone (reads := reads) (expects := expects) waitBound
    (Encrypting.start (s := s.drive (s.startInput p k)) hl).advanceHost (by decide)
  refine ⟨n, t, ?_, hn, ht⟩
  rw [Stmt.run, hstart, ScriptResult.andThen_ran, hwait, ScriptResult.andThen_ran, ScriptRun.read]

end

/-- Settles O40: the script is its one statement, and its READ observes the operation's outputs. -/
theorem encryptScriptReadsTheCiphertext : Obligations.EncryptScriptReadsTheCiphertext := by
  intro s p k hl hw
  obtain ⟨n, t, hrun, hn, ht⟩ := Stmt.run_encrypt p k hl hw (reads := []) (expects := [])
  refine ⟨⟨t, [t.outputs], []⟩, ?script, ht.phase_done hn, ?reads⟩
  case script =>
    rw [scriptFrom, runScript, hrun, ScriptResult.andThen_ran, runScript]
  case reads => exact congrArg (· :: []) (ht.outputs_of_le hn)

end Sys2Proof.Machine
end
